-- ==== Sys2Proof/Word.lean ====
section
/-! DEFINITION. The two word sizes of the machine (spec/00_scope.md R7, R8): bytes and 16-bit words, as bit
vectors, so that 8-bit arithmetic is modulo 2^8 and 16-bit arithmetic modulo 2^16. -/

namespace Sys2Proof

/-- An 8-bit value: a register half, a memory cell, an I/O value (R7, R99). -/
abbrev Byte := BitVec 8

/-- A 16-bit value: a register pair, an address, a port (R7, R80, R94). -/
abbrev Word := BitVec 16

end Sys2Proof
end

