-- ==== Sys2Proof/Machine/Bits.lean ====
section
/-! DEFINITION. Bit fields, byte order and sign extension (spec/00_scope.md R8, spec/20_memory.md R88): the helpers that
the decoder, the operand forms and the flag computations share. -/

namespace Sys2Proof

/-- `v[15:8]` (R8). -/
def hiByte (v : Word) : Byte := v.extractLsb' 8 8

/-- `v[7:0]` (R8). -/
def loByte (v : Word) : Byte := v.extractLsb' 0 8

/-- `hi : lo`, the 16-bit value with `hi` as its high byte (R8, R41). -/
def joinBytes (hi lo : Byte) : Word := hi ++ lo

/-- `sext_16(d)` (R8). -/
def sext16 (d : Byte) : Word := d.signExtend 16

/-- The byte with value `n` modulo 2^8. -/
def byte (n : Nat) : Byte := BitVec.ofNat 8 n

/-- A 16-bit operand as it stands in memory: low byte first (R88, R130). -/
def wordBytes (nn : Word) : List Byte := [loByte nn, hiByte nn]

/-- A bit as the byte 0 or 1. -/
def bitByte (b : Bool) : Byte := if b then 1 else 0

/-- `1 << b` (R369, R370). -/
def bitMask (bn : Fin 8) : Byte := 1 <<< bn.val

end Sys2Proof
end

