-- ==== Sys2Proof/Syntax.lean ====
section
/-! DEFINITION. The instructions: one constructor of `Instr` per row of spec/opcode_table.json, in the table's order,
its docstring the row's mnemonic in the spec's spelling, its encoding and its rule. The operand types are the operand
tables of spec/30_encoding.md R122 to R128. -/

namespace Sys2Proof

/-- Table `r` without its entry 6 (R122): the 8-bit registers. -/
inductive Reg8 where
  | b | c | d | e | h | l | a
deriving DecidableEq, Repr

/-- Table `rp` (R123). -/
inductive RP where
  | bc | de | hl | sp
deriving DecidableEq, Repr

/-- Table `rp2` (R124). -/
inductive RP2 where
  | bc | de | hl | af
deriving DecidableEq, Repr

/-- Table `rp` under an index prefix: value 2 is the index register itself (R123, R333). -/
inductive RPXY where
  | bc | de | xy | sp
deriving DecidableEq, Repr

/-- Table `cc` (R125). -/
inductive Cond where
  | nz | z | nc | c | po | pe | p | m
deriving DecidableEq, Repr

/-- The four conditions of `JR cc,e` (R125, R393). -/
inductive Cond4 where
  | nz | z | nc | c
deriving DecidableEq, Repr

/-- The index register an index prefix selects: IX for 0xDD, IY for 0xFD (R9, R133). -/
inductive XY where
  | ix | iy
deriving DecidableEq, Repr

/-- One byte of an index register: XYH or XYL (R43). -/
inductive Half where
  | high | low
deriving DecidableEq, Repr

/-- Table `rot` (R127, R354). -/
inductive RotOp where
  | rlc | rrc | rl | rr | sla | sra | sll | srl
deriving DecidableEq, Repr

/-- The instruction set (R120, R138, R143). `nn` is a 16-bit immediate or address, `n` an immediate byte, `d` a
displacement, `e` a relative offset, `bn` a bit number, `y`, `x`, `x4` and `x10` mirror and don't-care fields, `o` the
byte after an ignored index prefix. -/
inductive Instr where
  /-- `NOP`: `00000000` (R460). -/
  | nop
  /-- `EX AF,AF'`: `00001000` (R245). -/
  | exAfAf
  /-- `DJNZ e`: `00010000` (R396). -/
  | djnz (e : Byte)
  /-- `JR e`: `00011000` (R392). -/
  | jr (e : Byte)
  /-- `JR cc,e`: `001cc000` (R393). -/
  | jrCc (cc : Cond4) (e : Byte)
  /-- `LD dd,nn`: `00dd0001` (R230). -/
  | ldDdNn (dd : RP) (nn : Word)
  /-- `ADD HL,ss`: `00ss1001` (R330). -/
  | addHlSs (ss : RP)
  /-- `LD (BC),A`: `00000010` (R211). -/
  | ldMemBcA
  /-- `LD (DE),A`: `00010010` (R212). -/
  | ldMemDeA
  /-- `LD (nn),HL`: `00100010` (R235). -/
  | ldMemNnHl (nn : Word)
  /-- `LD (nn),A`: `00110010` (R213). -/
  | ldMemNnA (nn : Word)
  /-- `LD A,(BC)`: `00001010` (R208). -/
  | ldAMemBc
  /-- `LD A,(DE)`: `00011010` (R209). -/
  | ldAMemDe
  /-- `LD HL,(nn)`: `00101010` (R232). -/
  | ldHlMemNn (nn : Word)
  /-- `LD A,(nn)`: `00111010` (R210). -/
  | ldAMemNn (nn : Word)
  /-- `INC ss`: `00ss0011` (R334). -/
  | incSs (ss : RP)
  /-- `DEC ss`: `00ss1011` (R336). -/
  | decSs (ss : RP)
  /-- `INC r`: `00rrr100` (R292). -/
  | incR (r : Reg8)
  /-- `INC (HL)`: `00110100` (R293). -/
  | incMemHl
  /-- `DEC r`: `00rrr101` (R295). -/
  | decR (r : Reg8)
  /-- `DEC (HL)`: `00110101` (R296). -/
  | decMemHl
  /-- `LD r,n`: `00rrr110` (R201). -/
  | ldRN (r : Reg8) (n : Byte)
  /-- `LD (HL),n`: `00110110` (R206). -/
  | ldMemHlN (n : Byte)
  /-- `RLCA`: `00000111` (R350). -/
  | rlca
  /-- `RRCA`: `00001111` (R352). -/
  | rrca
  /-- `RLA`: `00010111` (R351). -/
  | rla
  /-- `RRA`: `00011111` (R353). -/
  | rra
  /-- `DAA`: `00100111` (R298). -/
  | daa
  /-- `CPL`: `00101111` (R299). -/
  | cpl
  /-- `SCF`: `00110111` (R302). -/
  | scf
  /-- `CCF`: `00111111` (R301). -/
  | ccf
  /-- `LD r,r'`: `01rrrsss` (R200). -/
  | ldRR (r : Reg8) (src : Reg8)
  /-- `LD r,(HL)`: `01rrr110` (R202). -/
  | ldRMemHl (r : Reg8)
  /-- `LD (HL),r`: `01110sss` (R204). -/
  | ldMemHlR (r : Reg8)
  /-- `HALT`: `01110110` (R461). -/
  | halt
  /-- `ADD A,r`: `10000sss` (R284). -/
  | addAR (r : Reg8)
  /-- `ADD A,(HL)`: `10000110` (R284). -/
  | addAMemHl
  /-- `ADC A,r`: `10001sss` (R285). -/
  | adcAR (r : Reg8)
  /-- `ADC A,(HL)`: `10001110` (R285). -/
  | adcAMemHl
  /-- `SUB r`: `10010sss` (R286). -/
  | subR (r : Reg8)
  /-- `SUB (HL)`: `10010110` (R286). -/
  | subMemHl
  /-- `SBC A,r`: `10011sss` (R287). -/
  | sbcAR (r : Reg8)
  /-- `SBC A,(HL)`: `10011110` (R287). -/
  | sbcAMemHl
  /-- `AND r`: `10100sss` (R288). -/
  | andR (r : Reg8)
  /-- `AND (HL)`: `10100110` (R288). -/
  | andMemHl
  /-- `XOR r`: `10101sss` (R289). -/
  | xorR (r : Reg8)
  /-- `XOR (HL)`: `10101110` (R289). -/
  | xorMemHl
  /-- `OR r`: `10110sss` (R290). -/
  | orR (r : Reg8)
  /-- `OR (HL)`: `10110110` (R290). -/
  | orMemHl
  /-- `CP r`: `10111sss` (R291). -/
  | cpR (r : Reg8)
  /-- `CP (HL)`: `10111110` (R291). -/
  | cpMemHl
  /-- `RET cc`: `11ccc000` (R400). -/
  | retCc (cc : Cond)
  /-- `POP qq`: `11qq0001` (R242). -/
  | popQq (qq : RP2)
  /-- `RET`: `11001001` (R399). -/
  | ret
  /-- `EXX`: `11011001` (R246). -/
  | exx
  /-- `JP (HL)`: `11101001` (R394). -/
  | jpHl
  /-- `LD SP,HL`: `11111001` (R238). -/
  | ldSpHl
  /-- `JP cc,nn`: `11ccc010` (R391). -/
  | jpCcNn (cc : Cond) (nn : Word)
  /-- `JP nn`: `11000011` (R390). -/
  | jpNn (nn : Word)
  /-- `OUT (n),A`: `11010011` (R438). -/
  | outNA (n : Byte)
  /-- `IN A,(n)`: `11011011` (R431). -/
  | inAN (n : Byte)
  /-- `EX (SP),HL`: `11100011` (R247). -/
  | exSpHl
  /-- `EX DE,HL`: `11101011` (R244). -/
  | exDeHl
  /-- `DI`: `11110011` (R462). -/
  | di
  /-- `EI`: `11111011` (R463). -/
  | ei
  /-- `CALL cc,nn`: `11ccc100` (R398). -/
  | callCcNn (cc : Cond) (nn : Word)
  /-- `PUSH qq`: `11qq0101` (R240). -/
  | pushQq (qq : RP2)
  /-- `CALL nn`: `11001101` (R397). -/
  | callNn (nn : Word)
  /-- `ADD A,n`: `11000110` (R284). -/
  | addAN (n : Byte)
  /-- `ADC A,n`: `11001110` (R285). -/
  | adcAN (n : Byte)
  /-- `SUB n`: `11010110` (R286). -/
  | subN (n : Byte)
  /-- `SBC A,n`: `11011110` (R287). -/
  | sbcAN (n : Byte)
  /-- `AND n`: `11100110` (R288). -/
  | andN (n : Byte)
  /-- `XOR n`: `11101110` (R289). -/
  | xorN (n : Byte)
  /-- `OR n`: `11110110` (R290). -/
  | orN (n : Byte)
  /-- `CP n`: `11111110` (R291). -/
  | cpN (n : Byte)
  /-- `RST p`: `11ppp111` (R403). -/
  | rst (p : Fin 8)
  /-- `prefix CB`: `11001011` (R137). -/
  | prefixCb
  /-- `prefix ED`: `11101101` (R137). -/
  | prefixEd
  /-- `prefix DD`: `11011101` (R137). -/
  | prefixDd
  /-- `prefix FD`: `11111101` (R137). -/
  | prefixFd
  /-- `RLC r`: `11001011 00000rrr` (R355). -/
  | rlcR (r : Reg8)
  /-- `RLC (HL)`: `11001011 00000110` (R355). -/
  | rlcMemHl
  /-- `RRC r`: `11001011 00001rrr` (R356). -/
  | rrcR (r : Reg8)
  /-- `RRC (HL)`: `11001011 00001110` (R356). -/
  | rrcMemHl
  /-- `RL r`: `11001011 00010rrr` (R357). -/
  | rlR (r : Reg8)
  /-- `RL (HL)`: `11001011 00010110` (R357). -/
  | rlMemHl
  /-- `RR r`: `11001011 00011rrr` (R358). -/
  | rrR (r : Reg8)
  /-- `RR (HL)`: `11001011 00011110` (R358). -/
  | rrMemHl
  /-- `SLA r`: `11001011 00100rrr` (R359). -/
  | slaR (r : Reg8)
  /-- `SLA (HL)`: `11001011 00100110` (R359). -/
  | slaMemHl
  /-- `SRA r`: `11001011 00101rrr` (R360). -/
  | sraR (r : Reg8)
  /-- `SRA (HL)`: `11001011 00101110` (R360). -/
  | sraMemHl
  /-- `SLL r`: `11001011 00110rrr` (R361). -/
  | sllR (r : Reg8)
  /-- `SLL (HL)`: `11001011 00110110` (R361). -/
  | sllMemHl
  /-- `SRL r`: `11001011 00111rrr` (R362). -/
  | srlR (r : Reg8)
  /-- `SRL (HL)`: `11001011 00111110` (R362). -/
  | srlMemHl
  /-- `BIT b,r`: `11001011 01bbbrrr` (R366). -/
  | bitBR (bn : Fin 8) (r : Reg8)
  /-- `BIT b,(HL)`: `11001011 01bbb110` (R367). -/
  | bitBMemHl (bn : Fin 8)
  /-- `RES b,r`: `11001011 10bbbrrr` (R370). -/
  | resBR (bn : Fin 8) (r : Reg8)
  /-- `RES b,(HL)`: `11001011 10bbb110` (R370). -/
  | resBMemHl (bn : Fin 8)
  /-- `SET b,r`: `11001011 11bbbrrr` (R369). -/
  | setBR (bn : Fin 8) (r : Reg8)
  /-- `SET b,(HL)`: `11001011 11bbb110` (R369). -/
  | setBMemHl (bn : Fin 8)
  /-- `IN r,(C)`: `11101101 01rrr000` (R432). -/
  | inRC (r : Reg8)
  /-- `IN F,(C)`: `11101101 01110000` (R433). -/
  | inFC
  /-- `OUT (C),r`: `11101101 01rrr001` (R439). -/
  | outCR (r : Reg8)
  /-- `OUT (C),0`: `11101101 01110001` (R440). -/
  | outC0
  /-- `SBC HL,ss`: `11101101 01ss0010` (R332). -/
  | sbcHlSs (ss : RP)
  /-- `ADC HL,ss`: `11101101 01ss1010` (R331). -/
  | adcHlSs (ss : RP)
  /-- `LD (nn),dd`: `11101101 01dd0011` (R237). -/
  | ldMemNnDd (nn : Word) (dd : RP)
  /-- `LD dd,(nn)`: `11101101 01dd1011` (R234). -/
  | ldDdMemNn (dd : RP) (nn : Word)
  /-- `NEG`: `11101101 01000100` (R300). -/
  | neg
  /-- `NEG (mirror)`: `11101101 01yyy100` (R300). -/
  | negMirror (y : Fin 8)
  /-- `RETN`: `11101101 01000101` (R402). -/
  | retn
  /-- `RETI`: `11101101 01001101` (R401). -/
  | reti
  /-- `RETN (mirror)`: `11101101 01yyy101` (R402). -/
  | retnMirror (y : Fin 8)
  /-- `IM 0`: `11101101 01000110` (R464). -/
  | im0
  /-- `IM 0 (mirror)`: `11101101 01001110` (R464). -/
  | im0Mirror4E
  /-- `IM 0 (mirror)`: `11101101 01100110` (R464). -/
  | im0Mirror66
  /-- `IM 0 (mirror)`: `11101101 01101110` (R464). -/
  | im0Mirror6E
  /-- `IM 1`: `11101101 01010110` (R465). -/
  | im1
  /-- `IM 1 (mirror)`: `11101101 01110110` (R465). -/
  | im1Mirror
  /-- `IM 2`: `11101101 01011110` (R466). -/
  | im2
  /-- `IM 2 (mirror)`: `11101101 01111110` (R466). -/
  | im2Mirror
  /-- `LD I,A`: `11101101 01000111` (R216). -/
  | ldIA
  /-- `LD R,A`: `11101101 01001111` (R217). -/
  | ldRA
  /-- `LD A,I`: `11101101 01010111` (R214). -/
  | ldAI
  /-- `LD A,R`: `11101101 01011111` (R215). -/
  | ldAR
  /-- `RRD`: `11101101 01100111` (R365). -/
  | rrd
  /-- `RLD`: `11101101 01101111` (R364). -/
  | rld
  /-- `NOP (ED undefined)`: `11101101 0111x111` (R467). -/
  | nopEd77 (x : Fin 2)
  /-- `LDI`: `11101101 10100000` (R261). -/
  | ldi
  /-- `CPI`: `11101101 10100001` (R265). -/
  | cpi
  /-- `INI`: `11101101 10100010` (R434). -/
  | ini
  /-- `OUTI`: `11101101 10100011` (R441). -/
  | outi
  /-- `LDD`: `11101101 10101000` (R263). -/
  | ldd
  /-- `CPD`: `11101101 10101001` (R267). -/
  | cpd
  /-- `IND`: `11101101 10101010` (R436). -/
  | ind
  /-- `OUTD`: `11101101 10101011` (R443). -/
  | outd
  /-- `LDIR`: `11101101 10110000` (R262). -/
  | ldir
  /-- `CPIR`: `11101101 10110001` (R266). -/
  | cpir
  /-- `INIR`: `11101101 10110010` (R435). -/
  | inir
  /-- `OTIR`: `11101101 10110011` (R442). -/
  | otir
  /-- `LDDR`: `11101101 10111000` (R264). -/
  | lddr
  /-- `CPDR`: `11101101 10111001` (R268). -/
  | cpdr
  /-- `INDR`: `11101101 10111010` (R437). -/
  | indr
  /-- `OTDR`: `11101101 10111011` (R444). -/
  | otdr
  /-- `NOP (ED undefined)`: `11101101 00xxxxxx` (R467). -/
  | nopEd00 (x : Fin 64)
  /-- `NOP (ED undefined)`: `11101101 100xxxxx` (R467). -/
  | nopEd80 (x : Fin 32)
  /-- `NOP (ED undefined)`: `11101101 101x01xx` (R467). -/
  | nopEdA4 (x4 : Fin 2) (x10 : Fin 4)
  /-- `NOP (ED undefined)`: `11101101 101x11xx` (R467). -/
  | nopEdAC (x4 : Fin 2) (x10 : Fin 4)
  /-- `NOP (ED undefined)`: `11101101 11xxxxxx` (R467). -/
  | nopEdC0 (x : Fin 64)
  /-- `ADD XY,pp`: `11i11101 00pp1001` (R333). -/
  | addXyPp (xy : XY) (pp : RPXY)
  /-- `LD XY,nn`: `11i11101 00100001` (R231). -/
  | ldXyNn (xy : XY) (nn : Word)
  /-- `LD (nn),XY`: `11i11101 00100010` (R236). -/
  | ldMemNnXy (nn : Word) (xy : XY)
  /-- `INC XY`: `11i11101 00100011` (R335). -/
  | incXy (xy : XY)
  /-- `LD XY,(nn)`: `11i11101 00101010` (R233). -/
  | ldXyMemNn (xy : XY) (nn : Word)
  /-- `DEC XY`: `11i11101 00101011` (R337). -/
  | decXy (xy : XY)
  /-- `INC XYh`: `11i11101 0010h100` (R292). -/
  | incXyh (xy : XY) (h : Half)
  /-- `DEC XYh`: `11i11101 0010h101` (R295). -/
  | decXyh (xy : XY) (h : Half)
  /-- `LD XYh,n`: `11i11101 0010h110` (R221). -/
  | ldXyhN (xy : XY) (h : Half) (n : Byte)
  /-- `INC (XY+d)`: `11i11101 00110100` (R294). -/
  | incMemXyd (xy : XY) (d : Byte)
  /-- `DEC (XY+d)`: `11i11101 00110101` (R297). -/
  | decMemXyd (xy : XY) (d : Byte)
  /-- `LD (XY+d),n`: `11i11101 00110110` (R207). -/
  | ldMemXydN (xy : XY) (d : Byte) (n : Byte)
  /-- `LD r,XYh`: `11i11101 01rrr10h` (R218). -/
  | ldRXyh (r : Reg8) (xy : XY) (h : Half)
  /-- `LD XYh,r`: `11i11101 0110hsss` (R219). -/
  | ldXyhR (xy : XY) (h : Half) (r : Reg8)
  /-- `LD XYh,XYg`: `11i11101 0110h10g` (R220). -/
  | ldXyhXyg (xy : XY) (h : Half) (g : Half)
  /-- `LD r,(XY+d)`: `11i11101 01rrr110` (R203). -/
  | ldRMemXyd (r : Reg8) (xy : XY) (d : Byte)
  /-- `LD (XY+d),r`: `11i11101 01110sss` (R205). -/
  | ldMemXydR (xy : XY) (d : Byte) (r : Reg8)
  /-- `ADD A,XYh`: `11i11101 1000010h` (R284). -/
  | addAXyh (xy : XY) (h : Half)
  /-- `ADD A,(XY+d)`: `11i11101 10000110` (R284). -/
  | addAMemXyd (xy : XY) (d : Byte)
  /-- `ADC A,XYh`: `11i11101 1000110h` (R285). -/
  | adcAXyh (xy : XY) (h : Half)
  /-- `ADC A,(XY+d)`: `11i11101 10001110` (R285). -/
  | adcAMemXyd (xy : XY) (d : Byte)
  /-- `SUB XYh`: `11i11101 1001010h` (R286). -/
  | subXyh (xy : XY) (h : Half)
  /-- `SUB (XY+d)`: `11i11101 10010110` (R286). -/
  | subMemXyd (xy : XY) (d : Byte)
  /-- `SBC A,XYh`: `11i11101 1001110h` (R287). -/
  | sbcAXyh (xy : XY) (h : Half)
  /-- `SBC A,(XY+d)`: `11i11101 10011110` (R287). -/
  | sbcAMemXyd (xy : XY) (d : Byte)
  /-- `AND XYh`: `11i11101 1010010h` (R288). -/
  | andXyh (xy : XY) (h : Half)
  /-- `AND (XY+d)`: `11i11101 10100110` (R288). -/
  | andMemXyd (xy : XY) (d : Byte)
  /-- `XOR XYh`: `11i11101 1010110h` (R289). -/
  | xorXyh (xy : XY) (h : Half)
  /-- `XOR (XY+d)`: `11i11101 10101110` (R289). -/
  | xorMemXyd (xy : XY) (d : Byte)
  /-- `OR XYh`: `11i11101 1011010h` (R290). -/
  | orXyh (xy : XY) (h : Half)
  /-- `OR (XY+d)`: `11i11101 10110110` (R290). -/
  | orMemXyd (xy : XY) (d : Byte)
  /-- `CP XYh`: `11i11101 1011110h` (R291). -/
  | cpXyh (xy : XY) (h : Half)
  /-- `CP (XY+d)`: `11i11101 10111110` (R291). -/
  | cpMemXyd (xy : XY) (d : Byte)
  /-- `POP XY`: `11i11101 11100001` (R243). -/
  | popXy (xy : XY)
  /-- `EX (SP),XY`: `11i11101 11100011` (R248). -/
  | exSpXy (xy : XY)
  /-- `PUSH XY`: `11i11101 11100101` (R241). -/
  | pushXy (xy : XY)
  /-- `JP (XY)`: `11i11101 11101001` (R395). -/
  | jpXy (xy : XY)
  /-- `LD SP,XY`: `11i11101 11111001` (R239). -/
  | ldSpXy (xy : XY)
  /-- `prefix CB (index)`: `11i11101 11001011` (R135). -/
  | prefixCbIndex (xy : XY)
  /-- `(index prefix ignored)`: `11i11101 oooooooo` (R468). -/
  | indexPrefixIgnored (xy : XY) (o : Byte)
  /-- `RLC (XY+d)`: `11i11101 11001011 dddddddd 00000110` (R355). -/
  | rlcMemXyd (xy : XY) (d : Byte)
  /-- `RLC (XY+d),r`: `11i11101 11001011 dddddddd 00000rrr` (R363). -/
  | rlcMemXydR (xy : XY) (d : Byte) (r : Reg8)
  /-- `RRC (XY+d)`: `11i11101 11001011 dddddddd 00001110` (R356). -/
  | rrcMemXyd (xy : XY) (d : Byte)
  /-- `RRC (XY+d),r`: `11i11101 11001011 dddddddd 00001rrr` (R363). -/
  | rrcMemXydR (xy : XY) (d : Byte) (r : Reg8)
  /-- `RL (XY+d)`: `11i11101 11001011 dddddddd 00010110` (R357). -/
  | rlMemXyd (xy : XY) (d : Byte)
  /-- `RL (XY+d),r`: `11i11101 11001011 dddddddd 00010rrr` (R363). -/
  | rlMemXydR (xy : XY) (d : Byte) (r : Reg8)
  /-- `RR (XY+d)`: `11i11101 11001011 dddddddd 00011110` (R358). -/
  | rrMemXyd (xy : XY) (d : Byte)
  /-- `RR (XY+d),r`: `11i11101 11001011 dddddddd 00011rrr` (R363). -/
  | rrMemXydR (xy : XY) (d : Byte) (r : Reg8)
  /-- `SLA (XY+d)`: `11i11101 11001011 dddddddd 00100110` (R359). -/
  | slaMemXyd (xy : XY) (d : Byte)
  /-- `SLA (XY+d),r`: `11i11101 11001011 dddddddd 00100rrr` (R363). -/
  | slaMemXydR (xy : XY) (d : Byte) (r : Reg8)
  /-- `SRA (XY+d)`: `11i11101 11001011 dddddddd 00101110` (R360). -/
  | sraMemXyd (xy : XY) (d : Byte)
  /-- `SRA (XY+d),r`: `11i11101 11001011 dddddddd 00101rrr` (R363). -/
  | sraMemXydR (xy : XY) (d : Byte) (r : Reg8)
  /-- `SLL (XY+d)`: `11i11101 11001011 dddddddd 00110110` (R361). -/
  | sllMemXyd (xy : XY) (d : Byte)
  /-- `SLL (XY+d),r`: `11i11101 11001011 dddddddd 00110rrr` (R363). -/
  | sllMemXydR (xy : XY) (d : Byte) (r : Reg8)
  /-- `SRL (XY+d)`: `11i11101 11001011 dddddddd 00111110` (R362). -/
  | srlMemXyd (xy : XY) (d : Byte)
  /-- `SRL (XY+d),r`: `11i11101 11001011 dddddddd 00111rrr` (R363). -/
  | srlMemXydR (xy : XY) (d : Byte) (r : Reg8)
  /-- `BIT b,(XY+d)`: `11i11101 11001011 dddddddd 01bbb110` (R368). -/
  | bitBMemXyd (bn : Fin 8) (xy : XY) (d : Byte)
  /-- `BIT b,(XY+d) (mirror)`: `11i11101 11001011 dddddddd 01bbbrrr` (R368). -/
  | bitBMemXydMirror (bn : Fin 8) (xy : XY) (d : Byte) (r : Reg8)
  /-- `RES b,(XY+d)`: `11i11101 11001011 dddddddd 10bbb110` (R370). -/
  | resBMemXyd (bn : Fin 8) (xy : XY) (d : Byte)
  /-- `RES b,(XY+d),r`: `11i11101 11001011 dddddddd 10bbbrrr` (R363). -/
  | resBMemXydR (bn : Fin 8) (xy : XY) (d : Byte) (r : Reg8)
  /-- `SET b,(XY+d)`: `11i11101 11001011 dddddddd 11bbb110` (R369). -/
  | setBMemXyd (bn : Fin 8) (xy : XY) (d : Byte)
  /-- `SET b,(XY+d),r`: `11i11101 11001011 dddddddd 11bbbrrr` (R363). -/
  | setBMemXydR (bn : Fin 8) (xy : XY) (d : Byte) (r : Reg8)
deriving DecidableEq, Repr

end Sys2Proof
end

