-- ==== Sys2Proof/WellFormed.lean ====
section
/-! DEFINITION. Which terms of `Instr` are instructions: the field values that spec/opcode_table.json excludes and that
the operand types of Syntax.lean do not already exclude. -/

namespace Sys2Proof

/-- The 85 opcode bytes that an index prefix changes (R134). -/
def indexChanged : List Byte :=
  [0x09, 0x19, 0x21, 0x22, 0x23, 0x24, 0x25, 0x26, 0x29, 0x2A, 0x2B, 0x2C, 0x2D, 0x2E, 0x34, 0x35, 0x36,
   0x39, 0x44, 0x45, 0x46, 0x4C, 0x4D, 0x4E, 0x54, 0x55, 0x56, 0x5C, 0x5D, 0x5E, 0x60, 0x61, 0x62, 0x63,
   0x64, 0x65, 0x66, 0x67, 0x68, 0x69, 0x6A, 0x6B, 0x6C, 0x6D, 0x6E, 0x6F, 0x70, 0x71, 0x72, 0x73, 0x74,
   0x75, 0x77, 0x7C, 0x7D, 0x7E, 0x84, 0x85, 0x86, 0x8C, 0x8D, 0x8E, 0x94, 0x95, 0x96, 0x9C, 0x9D, 0x9E,
   0xA4, 0xA5, 0xA6, 0xAC, 0xAD, 0xAE, 0xB4, 0xB5, 0xB6, 0xBC, 0xBD, 0xBE, 0xE1, 0xE3, 0xE5, 0xE9, 0xF9]

/-- R134, R468: an index prefix is ignored before `o` when `o` is neither one of the 85 changed opcodes nor 0xCB, which
opens the XYCB format (R135). -/
def indexPrefixIgnores (o : Byte) : Bool := !indexChanged.contains o && o != 0xCB

/-- Well-formed instructions. The checks: the mirror fields of `NEG` (R300: ED 44 is no mirror) and `RETN` (R402:
y = 0 is `RETN`, y = 1 is `RETI`), the register fields of `LD r,XYh` and `LD XYh,r` (R218, R219: neither H nor L), and the
byte after an ignored index prefix (R468). -/
def Instr.wellFormed : Instr → Bool
  | .negMirror y => y != 0
  | .retnMirror y => y != 0 && y != 1
  | .ldRXyh r _ _ => r != .h && r != .l
  | .ldXyhR _ _ r => r != .h && r != .l
  | .indexPrefixIgnored _ o => indexPrefixIgnores o
  | .nop | .exAfAf | .djnz _ | .jr _ | .jrCc _ _ | .ldDdNn _ _ | .addHlSs _ | .ldMemBcA | .ldMemDeA
  | .ldMemNnHl _ | .ldMemNnA _ | .ldAMemBc | .ldAMemDe | .ldHlMemNn _ | .ldAMemNn _ | .incSs _ | .decSs _
  | .incR _ | .incMemHl | .decR _ | .decMemHl | .ldRN _ _ | .ldMemHlN _ | .rlca | .rrca | .rla | .rra | .daa
  | .cpl | .scf | .ccf | .ldRR _ _ | .ldRMemHl _ | .ldMemHlR _ | .halt | .addAR _ | .addAMemHl | .adcAR _
  | .adcAMemHl | .subR _ | .subMemHl | .sbcAR _ | .sbcAMemHl | .andR _ | .andMemHl | .xorR _ | .xorMemHl
  | .orR _ | .orMemHl | .cpR _ | .cpMemHl | .retCc _ | .popQq _ | .ret | .exx | .jpHl | .ldSpHl | .jpCcNn _ _
  | .jpNn _ | .outNA _ | .inAN _ | .exSpHl | .exDeHl | .di | .ei | .callCcNn _ _ | .pushQq _ | .callNn _
  | .addAN _ | .adcAN _ | .subN _ | .sbcAN _ | .andN _ | .xorN _ | .orN _ | .cpN _ | .rst _ | .prefixCb
  | .prefixEd | .prefixDd | .prefixFd | .rlcR _ | .rlcMemHl | .rrcR _ | .rrcMemHl | .rlR _ | .rlMemHl | .rrR _
  | .rrMemHl | .slaR _ | .slaMemHl | .sraR _ | .sraMemHl | .sllR _ | .sllMemHl | .srlR _ | .srlMemHl
  | .bitBR _ _ | .bitBMemHl _ | .resBR _ _ | .resBMemHl _ | .setBR _ _ | .setBMemHl _ | .inRC _ | .inFC
  | .outCR _ | .outC0 | .sbcHlSs _ | .adcHlSs _ | .ldMemNnDd _ _ | .ldDdMemNn _ _ | .neg | .retn | .reti | .im0
  | .im0Mirror4E | .im0Mirror66 | .im0Mirror6E | .im1 | .im1Mirror | .im2 | .im2Mirror | .ldIA | .ldRA | .ldAI
  | .ldAR | .rrd | .rld | .nopEd77 _ | .ldi | .cpi | .ini | .outi | .ldd | .cpd | .ind | .outd | .ldir | .cpir
  | .inir | .otir | .lddr | .cpdr | .indr | .otdr | .nopEd00 _ | .nopEd80 _ | .nopEdA4 _ _ | .nopEdAC _ _
  | .nopEdC0 _ | .addXyPp _ _ | .ldXyNn _ _ | .ldMemNnXy _ _ | .incXy _ | .ldXyMemNn _ _ | .decXy _
  | .incXyh _ _ | .decXyh _ _ | .ldXyhN _ _ _ | .incMemXyd _ _ | .decMemXyd _ _ | .ldMemXydN _ _ _
  | .ldXyhXyg _ _ _ | .ldRMemXyd _ _ _ | .ldMemXydR _ _ _ | .addAXyh _ _ | .addAMemXyd _ _ | .adcAXyh _ _
  | .adcAMemXyd _ _ | .subXyh _ _ | .subMemXyd _ _ | .sbcAXyh _ _ | .sbcAMemXyd _ _ | .andXyh _ _
  | .andMemXyd _ _ | .xorXyh _ _ | .xorMemXyd _ _ | .orXyh _ _ | .orMemXyd _ _ | .cpXyh _ _ | .cpMemXyd _ _
  | .popXy _ | .exSpXy _ | .pushXy _ | .jpXy _ | .ldSpXy _ | .prefixCbIndex _ | .rlcMemXyd _ _
  | .rlcMemXydR _ _ _ | .rrcMemXyd _ _ | .rrcMemXydR _ _ _ | .rlMemXyd _ _ | .rlMemXydR _ _ _ | .rrMemXyd _ _
  | .rrMemXydR _ _ _ | .slaMemXyd _ _ | .slaMemXydR _ _ _ | .sraMemXyd _ _ | .sraMemXydR _ _ _ | .sllMemXyd _ _
  | .sllMemXydR _ _ _ | .srlMemXyd _ _ | .srlMemXydR _ _ _ | .bitBMemXyd _ _ _ | .bitBMemXydMirror _ _ _ _
  | .resBMemXyd _ _ _ | .resBMemXydR _ _ _ _ | .setBMemXyd _ _ _ | .setBMemXydR _ _ _ _ => true

end Sys2Proof
end

