-- ==== Sys2Proof/Decode.lean ====
section
/-! DEFINITION. The decoder (spec/30_encoding.md R120 to R137), then the encoder. Both are written from the encoding
tables of the spec; the tests hold words written out by hand, and the statement that decoding an encoding gives the
instruction back is an obligation. -/

namespace Sys2Proof

/-! ### Operand tables as numbers (R122 to R127) -/

/-- Table `r` (R122). -/
def Reg8.code : Reg8 → Nat
  | .b => 0 | .c => 1 | .d => 2 | .e => 3 | .h => 4 | .l => 5 | .a => 7

/-- Table `r` read backwards; `none` for 6, the memory operand (R122). -/
def reg8Of : Nat → Option Reg8
  | 0 => some .b | 1 => some .c | 2 => some .d | 3 => some .e | 4 => some .h | 5 => some .l | 7 => some .a
  | _ => none

/-- Table `rp` (R123). -/
def RP.code : RP → Nat
  | .bc => 0 | .de => 1 | .hl => 2 | .sp => 3

/-- Table `rp` read backwards (R123). -/
def rpOf : Nat → RP
  | 0 => .bc | 1 => .de | 2 => .hl | _ => .sp

/-- Table `rp2` (R124). -/
def RP2.code : RP2 → Nat
  | .bc => 0 | .de => 1 | .hl => 2 | .af => 3

/-- Table `rp2` read backwards (R124). -/
def rp2Of : Nat → RP2
  | 0 => .bc | 1 => .de | 2 => .hl | _ => .af

/-- Table `rp` under an index prefix (R123, R333). -/
def RPXY.code : RPXY → Nat
  | .bc => 0 | .de => 1 | .xy => 2 | .sp => 3

/-- Table `rp` under an index prefix, read backwards. -/
def rpxyOf : Nat → RPXY
  | 0 => .bc | 1 => .de | 2 => .xy | _ => .sp

/-- Table `cc` (R125). -/
def Cond.code : Cond → Nat
  | .nz => 0 | .z => 1 | .nc => 2 | .c => 3 | .po => 4 | .pe => 5 | .p => 6 | .m => 7

/-- Table `cc` read backwards (R125). -/
def condOf : Nat → Cond
  | 0 => .nz | 1 => .z | 2 => .nc | 3 => .c | 4 => .po | 5 => .pe | 6 => .p | _ => .m

/-- The condition field of `JR cc,e`: y - 4 (R393). -/
def Cond4.code : Cond4 → Nat
  | .nz => 0 | .z => 1 | .nc => 2 | .c => 3

/-- The condition field of `JR cc,e` read backwards (R393). -/
def cond4Of : Nat → Cond4
  | 0 => .nz | 1 => .z | 2 => .nc | _ => .c

/-- 0 for XYH, 1 for XYL (the fields `h` and `g` of R121). -/
def Half.code : Half → Nat
  | .high => 0 | .low => 1

/-- The field `h` or `g` read backwards. -/
def halfOf : Nat → Half
  | 0 => .high | _ => .low

/-- 0xDD selects IX, 0xFD selects IY (R133). -/
def XY.prefixByte : XY → Byte
  | .ix => 0xDD | .iy => 0xFD

/-- The index register a prefix byte selects (R133). -/
def xyOf (b : Byte) : Option XY :=
  if b = 0xDD then some .ix else if b = 0xFD then some .iy else none

/-! ### Opcode fields (R121) -/

/-- `x = op[7:6]`. -/
def opX (op : Byte) : Nat := op.toNat / 64
/-- `y = op[5:3]`. -/
def opY (op : Byte) : Nat := op.toNat / 8 % 8
/-- `z = op[2:0]`. -/
def opZ (op : Byte) : Nat := op.toNat % 8
/-- `p = op[5:4]`. -/
def opP (op : Byte) : Nat := op.toNat / 16 % 4
/-- `q = op[3]`. -/
def opQ (op : Byte) : Nat := op.toNat / 8 % 2

/-- The 16-bit operand of two bytes, low byte first (R130). -/
def operandWord (lo hi : Byte) : Word := joinBytes hi lo

/-- What the decoder finds: the instruction, its length in bytes, and how many of them are M1 fetches (R120, R141). -/
structure Decoded where
  instr : Instr
  len : Nat
  m1s : Nat
deriving DecidableEq, Repr

/-- The eight ALU operations on a register or `(HL)` (R126, R280): `x = 2` of the base space. -/
def decodeAlu (y z : Nat) : Instr :=
  match y, reg8Of z with
  | 0, some r => .addAR r
  | 0, none => .addAMemHl
  | 1, some r => .adcAR r
  | 1, none => .adcAMemHl
  | 2, some r => .subR r
  | 2, none => .subMemHl
  | 3, some r => .sbcAR r
  | 3, none => .sbcAMemHl
  | 4, some r => .andR r
  | 4, none => .andMemHl
  | 5, some r => .xorR r
  | 5, none => .xorMemHl
  | 6, some r => .orR r
  | 6, none => .orMemHl
  | _, some r => .cpR r
  | _, none => .cpMemHl

/-- The eight ALU operations on an immediate (R126, R280): `x = 3, z = 6`. -/
def decodeAluN (y : Nat) (n : Byte) : Instr :=
  match y with
  | 0 => .addAN n
  | 1 => .adcAN n
  | 2 => .subN n
  | 3 => .sbcAN n
  | 4 => .andN n
  | 5 => .xorN n
  | 6 => .orN n
  | _ => .cpN n

/-- The base space (R122 to R126, R142) with its operand bytes: the instruction and how many operand bytes it has. -/
def decodeBase (op b1 b2 : Byte) : Instr × Nat :=
  let y := opY op
  let p := opP op
  let nn := operandWord b1 b2
  match opX op, opZ op with
  | 0, 0 =>
    match y with
    | 0 => (.nop, 0)
    | 1 => (.exAfAf, 0)
    | 2 => (.djnz b1, 1)
    | 3 => (.jr b1, 1)
    | _ => (.jrCc (cond4Of (y - 4)) b1, 1)
  | 0, 1 => if opQ op = 0 then (.ldDdNn (rpOf p) nn, 2) else (.addHlSs (rpOf p), 0)
  | 0, 2 =>
    match y with
    | 0 => (.ldMemBcA, 0)
    | 1 => (.ldAMemBc, 0)
    | 2 => (.ldMemDeA, 0)
    | 3 => (.ldAMemDe, 0)
    | 4 => (.ldMemNnHl nn, 2)
    | 5 => (.ldHlMemNn nn, 2)
    | 6 => (.ldMemNnA nn, 2)
    | _ => (.ldAMemNn nn, 2)
  | 0, 3 => if opQ op = 0 then (.incSs (rpOf p), 0) else (.decSs (rpOf p), 0)
  | 0, 4 => match reg8Of y with | some r => (.incR r, 0) | none => (.incMemHl, 0)
  | 0, 5 => match reg8Of y with | some r => (.decR r, 0) | none => (.decMemHl, 0)
  | 0, 6 => match reg8Of y with | some r => (.ldRN r b1, 1) | none => (.ldMemHlN b1, 1)
  | 0, _ =>
    match y with
    | 0 => (.rlca, 0)
    | 1 => (.rrca, 0)
    | 2 => (.rla, 0)
    | 3 => (.rra, 0)
    | 4 => (.daa, 0)
    | 5 => (.cpl, 0)
    | 6 => (.scf, 0)
    | _ => (.ccf, 0)
  | 1, z =>
    match reg8Of y, reg8Of z with
    | some r, some src => (.ldRR r src, 0)
    | some r, none => (.ldRMemHl r, 0)
    | none, some r => (.ldMemHlR r, 0)
    | none, none => (.halt, 0)
  | 2, z => (decodeAlu y z, 0)
  | _, 0 => (.retCc (condOf y), 0)
  | _, 1 =>
    if opQ op = 0 then (.popQq (rp2Of p), 0)
    else match p with
      | 0 => (.ret, 0)
      | 1 => (.exx, 0)
      | 2 => (.jpHl, 0)
      | _ => (.ldSpHl, 0)
  | _, 2 => (.jpCcNn (condOf y) nn, 2)
  | _, 3 =>
    match y with
    | 0 => (.jpNn nn, 2)
    | 1 => (.prefixCb, 0)
    | 2 => (.outNA b1, 1)
    | 3 => (.inAN b1, 1)
    | 4 => (.exSpHl, 0)
    | 5 => (.exDeHl, 0)
    | 6 => (.di, 0)
    | _ => (.ei, 0)
  | _, 4 => (.callCcNn (condOf y) nn, 2)
  | _, 5 =>
    if opQ op = 0 then (.pushQq (rp2Of p), 0)
    else match p with
      | 0 => (.callNn nn, 2)
      | 1 => (.prefixDd, 0)
      | 2 => (.prefixEd, 0)
      | _ => (.prefixFd, 0)
  | _, 6 => (decodeAluN y b1, 1)
  | _, _ => (.rst (Fin.ofNat 8 y), 0)

/-- The CB space (R127, R142): rotates and shifts, `BIT`, `RES`, `SET`. -/
def decodeCB (op : Byte) : Instr :=
  let y := opY op
  let bn := Fin.ofNat 8 y
  match opX op, reg8Of (opZ op) with
  | 0, some r =>
    match y with
    | 0 => .rlcR r
    | 1 => .rrcR r
    | 2 => .rlR r
    | 3 => .rrR r
    | 4 => .slaR r
    | 5 => .sraR r
    | 6 => .sllR r
    | _ => .srlR r
  | 0, none =>
    match y with
    | 0 => .rlcMemHl
    | 1 => .rrcMemHl
    | 2 => .rlMemHl
    | 3 => .rrMemHl
    | 4 => .slaMemHl
    | 5 => .sraMemHl
    | 6 => .sllMemHl
    | _ => .srlMemHl
  | 1, some r => .bitBR bn r
  | 1, none => .bitBMemHl bn
  | 2, some r => .resBR bn r
  | 2, none => .resBMemHl bn
  | _, some r => .setBR bn r
  | _, none => .setBMemHl bn

/-- The 16 block instructions (R136): `op = 0xA0 + 8*(y-4) + z`, y from 4 to 7, z from 0 to 3. -/
def decodeBlock (y z : Nat) : Instr :=
  match y, z with
  | 4, 0 => .ldi | 4, 1 => .cpi | 4, 2 => .ini | 4, _ => .outi
  | 5, 0 => .ldd | 5, 1 => .cpd | 5, 2 => .ind | 5, _ => .outd
  | 6, 0 => .ldir | 6, 1 => .cpir | 6, 2 => .inir | 6, _ => .otir
  | _, 0 => .lddr | _, 1 => .cpdr | _, 2 => .indr | _, _ => .otdr

/-- The ED space (R128, R136, R142, R467): the instruction and how many operand bytes it has. -/
def decodeED (op b1 b2 : Byte) : Instr × Nat :=
  let y := opY op
  let z := opZ op
  let p := opP op
  let nn := operandWord b1 b2
  match opX op with
  | 0 => (.nopEd00 (Fin.ofNat 64 op.toNat), 0)
  | 1 =>
    match z with
    | 0 => match reg8Of y with | some r => (.inRC r, 0) | none => (.inFC, 0)
    | 1 => match reg8Of y with | some r => (.outCR r, 0) | none => (.outC0, 0)
    | 2 => if opQ op = 0 then (.sbcHlSs (rpOf p), 0) else (.adcHlSs (rpOf p), 0)
    | 3 => if opQ op = 0 then (.ldMemNnDd nn (rpOf p), 2) else (.ldDdMemNn (rpOf p) nn, 2)
    | 4 => if y = 0 then (.neg, 0) else (.negMirror (Fin.ofNat 8 y), 0)
    | 5 => if y = 0 then (.retn, 0) else if y = 1 then (.reti, 0) else (.retnMirror (Fin.ofNat 8 y), 0)
    | 6 =>
      match y with
      | 0 => (.im0, 0)
      | 1 => (.im0Mirror4E, 0)
      | 2 => (.im1, 0)
      | 3 => (.im2, 0)
      | 4 => (.im0Mirror66, 0)
      | 5 => (.im0Mirror6E, 0)
      | 6 => (.im1Mirror, 0)
      | _ => (.im2Mirror, 0)
    | _ =>
      match y with
      | 0 => (.ldIA, 0)
      | 1 => (.ldRA, 0)
      | 2 => (.ldAI, 0)
      | 3 => (.ldAR, 0)
      | 4 => (.rrd, 0)
      | 5 => (.rld, 0)
      | _ => (.nopEd77 (Fin.ofNat 2 (y - 6)), 0)
  | 2 =>
    if y < 4 then (.nopEd80 (Fin.ofNat 32 op.toNat), 0)
    else if z < 4 then (decodeBlock y z, 0)
    else if opQ op = 0 then (.nopEdA4 (Fin.ofNat 2 (y / 2)) (Fin.ofNat 4 z), 0)
    else (.nopEdAC (Fin.ofNat 2 (y / 2)) (Fin.ofNat 4 z), 0)
  | _ => (.nopEdC0 (Fin.ofNat 64 op.toNat), 0)

/-- The ALU operations under an index prefix (R280): `XYh` for z = 4 and 5, `(XY+d)` for z = 6. -/
def decodeAluXY (xy : XY) (y z : Nat) (d : Byte) : Option (Instr × Nat) :=
  match y, z with
  | 0, 4 => some (.addAXyh xy .high, 0)
  | 0, 5 => some (.addAXyh xy .low, 0)
  | 0, 6 => some (.addAMemXyd xy d, 1)
  | 0, _ => none
  | 1, 4 => some (.adcAXyh xy .high, 0)
  | 1, 5 => some (.adcAXyh xy .low, 0)
  | 1, 6 => some (.adcAMemXyd xy d, 1)
  | 1, _ => none
  | 2, 4 => some (.subXyh xy .high, 0)
  | 2, 5 => some (.subXyh xy .low, 0)
  | 2, 6 => some (.subMemXyd xy d, 1)
  | 2, _ => none
  | 3, 4 => some (.sbcAXyh xy .high, 0)
  | 3, 5 => some (.sbcAXyh xy .low, 0)
  | 3, 6 => some (.sbcAMemXyd xy d, 1)
  | 3, _ => none
  | 4, 4 => some (.andXyh xy .high, 0)
  | 4, 5 => some (.andXyh xy .low, 0)
  | 4, 6 => some (.andMemXyd xy d, 1)
  | 4, _ => none
  | 5, 4 => some (.xorXyh xy .high, 0)
  | 5, 5 => some (.xorXyh xy .low, 0)
  | 5, 6 => some (.xorMemXyd xy d, 1)
  | 5, _ => none
  | 6, 4 => some (.orXyh xy .high, 0)
  | 6, 5 => some (.orXyh xy .low, 0)
  | 6, 6 => some (.orMemXyd xy d, 1)
  | 6, _ => none
  | _, 4 => some (.cpXyh xy .high, 0)
  | _, 5 => some (.cpXyh xy .low, 0)
  | _, 6 => some (.cpMemXyd xy d, 1)
  | _, _ => none

/-- `LD` under an index prefix (R133): `x = 1`. In a form that uses `(XY+d)`, H and L keep their real meaning;
otherwise H and L are XYH and XYL. A form with none of `(HL)`, H and L is not changed (R134). -/
def decodeLdXY (xy : XY) (y z : Nat) (d : Byte) : Option (Instr × Nat) :=
  match reg8Of y, reg8Of z with
  | none, none => none
  | some r, none => some (.ldRMemXyd r xy d, 1)
  | none, some r => some (.ldMemXydR xy d r, 1)
  | some .h, some .h => some (.ldXyhXyg xy .high .high, 0)
  | some .h, some .l => some (.ldXyhXyg xy .high .low, 0)
  | some .l, some .h => some (.ldXyhXyg xy .low .high, 0)
  | some .l, some .l => some (.ldXyhXyg xy .low .low, 0)
  | some .h, some r => some (.ldXyhR xy .high r, 0)
  | some .l, some r => some (.ldXyhR xy .low r, 0)
  | some r, some .h => some (.ldRXyh r xy .high, 0)
  | some r, some .l => some (.ldRXyh r xy .low, 0)
  | some _, some _ => none

/-- The XY format (R133, R134): `none` where the prefix is ignored (R468). -/
def decodeXY (xy : XY) (op b1 b2 : Byte) : Option (Instr × Nat) :=
  let y := opY op
  let z := opZ op
  let nn := operandWord b1 b2
  match opX op with
  | 0 =>
    match z with
    | 1 =>
      if opQ op = 1 then some (.addXyPp xy (rpxyOf (opP op)), 0)
      else if y = 4 then some (.ldXyNn xy nn, 2) else none
    | 2 => if y = 4 then some (.ldMemNnXy nn xy, 2) else if y = 5 then some (.ldXyMemNn xy nn, 2) else none
    | 3 => if y = 4 then some (.incXy xy, 0) else if y = 5 then some (.decXy xy, 0) else none
    | 4 =>
      match y with
      | 4 => some (.incXyh xy .high, 0) | 5 => some (.incXyh xy .low, 0) | 6 => some (.incMemXyd xy b1, 1)
      | _ => none
    | 5 =>
      match y with
      | 4 => some (.decXyh xy .high, 0) | 5 => some (.decXyh xy .low, 0) | 6 => some (.decMemXyd xy b1, 1)
      | _ => none
    | 6 =>
      match y with
      | 4 => some (.ldXyhN xy .high b1, 1) | 5 => some (.ldXyhN xy .low b1, 1) | 6 => some (.ldMemXydN xy b1 b2, 2)
      | _ => none
    | _ => none
  | 1 => decodeLdXY xy y z b1
  | 2 => decodeAluXY xy y z b1
  | _ =>
    if op = 0xE1 then some (.popXy xy, 0)
    else if op = 0xE3 then some (.exSpXy xy, 0)
    else if op = 0xE5 then some (.pushXy xy, 0)
    else if op = 0xE9 then some (.jpXy xy, 0)
    else if op = 0xF9 then some (.ldSpXy xy, 0)
    else none

/-- The XYCB format (R135): displacement `d`, then the opcode byte. -/
def decodeXYCB (xy : XY) (d op : Byte) : Instr :=
  let y := opY op
  let bn := Fin.ofNat 8 y
  match opX op, reg8Of (opZ op) with
  | 0, none =>
    match y with
    | 0 => .rlcMemXyd xy d
    | 1 => .rrcMemXyd xy d
    | 2 => .rlMemXyd xy d
    | 3 => .rrMemXyd xy d
    | 4 => .slaMemXyd xy d
    | 5 => .sraMemXyd xy d
    | 6 => .sllMemXyd xy d
    | _ => .srlMemXyd xy d
  | 0, some r =>
    match y with
    | 0 => .rlcMemXydR xy d r
    | 1 => .rrcMemXydR xy d r
    | 2 => .rlMemXydR xy d r
    | 3 => .rrMemXydR xy d r
    | 4 => .slaMemXydR xy d r
    | 5 => .sraMemXydR xy d r
    | 6 => .sllMemXydR xy d r
    | _ => .srlMemXydR xy d r
  | 1, none => .bitBMemXyd bn xy d
  | 1, some r => .bitBMemXydMirror bn xy d r
  | 2, none => .resBMemXyd bn xy d
  | 2, some r => .resBMemXydR bn xy d r
  | _, none => .setBMemXyd bn xy d
  | _, some r => .setBMemXydR bn xy d r

/-- R137 on the bytes of one instruction: the byte at the instruction's address and the three after it. No encoding is
illegal (R138), so this is total. -/
def decodeBytes (b0 b1 b2 b3 : Byte) : Decoded :=
  if b0 = 0xCB then ⟨decodeCB b1, 2, 2⟩
  else if b0 = 0xED then
    let r := decodeED b1 b2 b3
    ⟨r.1, 2 + r.2, 2⟩
  else
    match xyOf b0 with
    | some xy =>
      if b1 = 0xCB then ⟨decodeXYCB xy b2 b3, 4, 2⟩
      else match decodeXY xy b1 b2 b3 with
        | some r => ⟨r.1, 2 + r.2, 2⟩
        | none => ⟨.indexPrefixIgnored xy b1, 1, 1⟩
    | none =>
      let r := decodeBase b0 b1 b2
      ⟨r.1, 1 + r.2, 1⟩

/-- Is the byte one of the prefixes 0xCB, 0xED, 0xDD, 0xFD (R16)? -/
def isPrefixByte (b : Byte) : Bool := b == 0xCB || b == 0xED || b == 0xDD || b == 0xFD

/-- Why a list of bytes is no instruction. Both are safe: the machine always has four bytes to decode. -/
inductive DecodeError where
  /-- No byte at all. -/
  | empty
  /-- The instruction has more bytes than the list. -/
  | truncated
deriving DecidableEq, Repr

/-- What the decoder answers for a list of bytes. -/
inductive DecodeResult where
  | ok (d : Decoded)
  | error (e : DecodeError)
deriving DecidableEq, Repr

/-- `d`, if the list of `n` bytes it was read from holds all of its bytes. -/
def complete (d : Decoded) (n : Nat) : DecodeResult :=
  if d.len ≤ n then .ok d else .error .truncated

/-- The decoder on any list of bytes: the first instruction of the list, or a refusal by name.

A list that ends right after a prefix is that prefix row of the table (R137, R142, R143; log 8): the single bytes CB, ED,
DD, FD, and DD CB, FD CB. -/
def decode : List Byte → DecodeResult
  | [] => .error .empty
  | [b0] =>
    if isPrefixByte b0 then .ok ⟨(decodeBase b0 0 0).1, 1, 1⟩ else complete (decodeBytes b0 0 0 0) 1
  | [b0, b1] =>
    match xyOf b0 with
    | some xy => if b1 = 0xCB then .ok ⟨.prefixCbIndex xy, 2, 2⟩ else complete (decodeBytes b0 b1 0 0) 2
    | none => complete (decodeBytes b0 b1 0 0) 2
  | [b0, b1, b2] => complete (decodeBytes b0 b1 b2 0) 3
  | b0 :: b1 :: b2 :: b3 :: _ => complete (decodeBytes b0 b1 b2 b3) 4

/-! ### The encoder -/

/-- The bytes of an instruction, in memory order, from the encodings of the opcode table. For an ignored index prefix
they are the prefix and the byte that makes it ignored (R468). -/
def encode : Instr → List Byte
  | .nop => [byte 0x00]
  | .exAfAf => [byte 0x08]
  | .djnz e => [byte 0x10, e]
  | .jr e => [byte 0x18, e]
  | .jrCc cc e => [byte (0x20 + 8 * cc.code), e]
  | .ldDdNn dd nn => byte (0x01 + 16 * dd.code) :: wordBytes nn
  | .addHlSs ss => [byte (0x09 + 16 * ss.code)]
  | .ldMemBcA => [byte 0x02]
  | .ldMemDeA => [byte 0x12]
  | .ldMemNnHl nn => byte 0x22 :: wordBytes nn
  | .ldMemNnA nn => byte 0x32 :: wordBytes nn
  | .ldAMemBc => [byte 0x0A]
  | .ldAMemDe => [byte 0x1A]
  | .ldHlMemNn nn => byte 0x2A :: wordBytes nn
  | .ldAMemNn nn => byte 0x3A :: wordBytes nn
  | .incSs ss => [byte (0x03 + 16 * ss.code)]
  | .decSs ss => [byte (0x0B + 16 * ss.code)]
  | .incR r => [byte (0x04 + 8 * r.code)]
  | .incMemHl => [byte 0x34]
  | .decR r => [byte (0x05 + 8 * r.code)]
  | .decMemHl => [byte 0x35]
  | .ldRN r n => [byte (0x06 + 8 * r.code), n]
  | .ldMemHlN n => [byte 0x36, n]
  | .rlca => [byte 0x07]
  | .rrca => [byte 0x0F]
  | .rla => [byte 0x17]
  | .rra => [byte 0x1F]
  | .daa => [byte 0x27]
  | .cpl => [byte 0x2F]
  | .scf => [byte 0x37]
  | .ccf => [byte 0x3F]
  | .ldRR r src => [byte (0x40 + 8 * r.code + src.code)]
  | .ldRMemHl r => [byte (0x46 + 8 * r.code)]
  | .ldMemHlR r => [byte (0x70 + r.code)]
  | .halt => [byte 0x76]
  | .addAR r => [byte (0x80 + r.code)]
  | .addAMemHl => [byte 0x86]
  | .adcAR r => [byte (0x88 + r.code)]
  | .adcAMemHl => [byte 0x8E]
  | .subR r => [byte (0x90 + r.code)]
  | .subMemHl => [byte 0x96]
  | .sbcAR r => [byte (0x98 + r.code)]
  | .sbcAMemHl => [byte 0x9E]
  | .andR r => [byte (0xA0 + r.code)]
  | .andMemHl => [byte 0xA6]
  | .xorR r => [byte (0xA8 + r.code)]
  | .xorMemHl => [byte 0xAE]
  | .orR r => [byte (0xB0 + r.code)]
  | .orMemHl => [byte 0xB6]
  | .cpR r => [byte (0xB8 + r.code)]
  | .cpMemHl => [byte 0xBE]
  | .retCc cc => [byte (0xC0 + 8 * cc.code)]
  | .popQq qq => [byte (0xC1 + 16 * qq.code)]
  | .ret => [byte 0xC9]
  | .exx => [byte 0xD9]
  | .jpHl => [byte 0xE9]
  | .ldSpHl => [byte 0xF9]
  | .jpCcNn cc nn => byte (0xC2 + 8 * cc.code) :: wordBytes nn
  | .jpNn nn => byte 0xC3 :: wordBytes nn
  | .outNA n => [byte 0xD3, n]
  | .inAN n => [byte 0xDB, n]
  | .exSpHl => [byte 0xE3]
  | .exDeHl => [byte 0xEB]
  | .di => [byte 0xF3]
  | .ei => [byte 0xFB]
  | .callCcNn cc nn => byte (0xC4 + 8 * cc.code) :: wordBytes nn
  | .pushQq qq => [byte (0xC5 + 16 * qq.code)]
  | .callNn nn => byte 0xCD :: wordBytes nn
  | .addAN n => [byte 0xC6, n]
  | .adcAN n => [byte 0xCE, n]
  | .subN n => [byte 0xD6, n]
  | .sbcAN n => [byte 0xDE, n]
  | .andN n => [byte 0xE6, n]
  | .xorN n => [byte 0xEE, n]
  | .orN n => [byte 0xF6, n]
  | .cpN n => [byte 0xFE, n]
  | .rst p => [byte (0xC7 + 8 * p.val)]
  | .prefixCb => [byte 0xCB]
  | .prefixEd => [byte 0xED]
  | .prefixDd => [byte 0xDD]
  | .prefixFd => [byte 0xFD]
  | .rlcR r => [byte 0xCB, byte (0x00 + r.code)]
  | .rlcMemHl => [byte 0xCB, byte 0x06]
  | .rrcR r => [byte 0xCB, byte (0x08 + r.code)]
  | .rrcMemHl => [byte 0xCB, byte 0x0E]
  | .rlR r => [byte 0xCB, byte (0x10 + r.code)]
  | .rlMemHl => [byte 0xCB, byte 0x16]
  | .rrR r => [byte 0xCB, byte (0x18 + r.code)]
  | .rrMemHl => [byte 0xCB, byte 0x1E]
  | .slaR r => [byte 0xCB, byte (0x20 + r.code)]
  | .slaMemHl => [byte 0xCB, byte 0x26]
  | .sraR r => [byte 0xCB, byte (0x28 + r.code)]
  | .sraMemHl => [byte 0xCB, byte 0x2E]
  | .sllR r => [byte 0xCB, byte (0x30 + r.code)]
  | .sllMemHl => [byte 0xCB, byte 0x36]
  | .srlR r => [byte 0xCB, byte (0x38 + r.code)]
  | .srlMemHl => [byte 0xCB, byte 0x3E]
  | .bitBR bn r => [byte 0xCB, byte (0x40 + 8 * bn.val + r.code)]
  | .bitBMemHl bn => [byte 0xCB, byte (0x46 + 8 * bn.val)]
  | .resBR bn r => [byte 0xCB, byte (0x80 + 8 * bn.val + r.code)]
  | .resBMemHl bn => [byte 0xCB, byte (0x86 + 8 * bn.val)]
  | .setBR bn r => [byte 0xCB, byte (0xC0 + 8 * bn.val + r.code)]
  | .setBMemHl bn => [byte 0xCB, byte (0xC6 + 8 * bn.val)]
  | .inRC r => [byte 0xED, byte (0x40 + 8 * r.code)]
  | .inFC => [byte 0xED, byte 0x70]
  | .outCR r => [byte 0xED, byte (0x41 + 8 * r.code)]
  | .outC0 => [byte 0xED, byte 0x71]
  | .sbcHlSs ss => [byte 0xED, byte (0x42 + 16 * ss.code)]
  | .adcHlSs ss => [byte 0xED, byte (0x4A + 16 * ss.code)]
  | .ldMemNnDd nn dd => byte 0xED :: byte (0x43 + 16 * dd.code) :: wordBytes nn
  | .ldDdMemNn dd nn => byte 0xED :: byte (0x4B + 16 * dd.code) :: wordBytes nn
  | .neg => [byte 0xED, byte 0x44]
  | .negMirror y => [byte 0xED, byte (0x44 + 8 * y.val)]
  | .retn => [byte 0xED, byte 0x45]
  | .reti => [byte 0xED, byte 0x4D]
  | .retnMirror y => [byte 0xED, byte (0x45 + 8 * y.val)]
  | .im0 => [byte 0xED, byte 0x46]
  | .im0Mirror4E => [byte 0xED, byte 0x4E]
  | .im0Mirror66 => [byte 0xED, byte 0x66]
  | .im0Mirror6E => [byte 0xED, byte 0x6E]
  | .im1 => [byte 0xED, byte 0x56]
  | .im1Mirror => [byte 0xED, byte 0x76]
  | .im2 => [byte 0xED, byte 0x5E]
  | .im2Mirror => [byte 0xED, byte 0x7E]
  | .ldIA => [byte 0xED, byte 0x47]
  | .ldRA => [byte 0xED, byte 0x4F]
  | .ldAI => [byte 0xED, byte 0x57]
  | .ldAR => [byte 0xED, byte 0x5F]
  | .rrd => [byte 0xED, byte 0x67]
  | .rld => [byte 0xED, byte 0x6F]
  | .nopEd77 x => [byte 0xED, byte (0x77 + 8 * x.val)]
  | .ldi => [byte 0xED, byte 0xA0]
  | .cpi => [byte 0xED, byte 0xA1]
  | .ini => [byte 0xED, byte 0xA2]
  | .outi => [byte 0xED, byte 0xA3]
  | .ldd => [byte 0xED, byte 0xA8]
  | .cpd => [byte 0xED, byte 0xA9]
  | .ind => [byte 0xED, byte 0xAA]
  | .outd => [byte 0xED, byte 0xAB]
  | .ldir => [byte 0xED, byte 0xB0]
  | .cpir => [byte 0xED, byte 0xB1]
  | .inir => [byte 0xED, byte 0xB2]
  | .otir => [byte 0xED, byte 0xB3]
  | .lddr => [byte 0xED, byte 0xB8]
  | .cpdr => [byte 0xED, byte 0xB9]
  | .indr => [byte 0xED, byte 0xBA]
  | .otdr => [byte 0xED, byte 0xBB]
  | .nopEd00 x => [byte 0xED, byte (0x00 + x.val)]
  | .nopEd80 x => [byte 0xED, byte (0x80 + x.val)]
  | .nopEdA4 x4 x10 => [byte 0xED, byte (0xA4 + 16 * x4.val + x10.val)]
  | .nopEdAC x4 x10 => [byte 0xED, byte (0xAC + 16 * x4.val + x10.val)]
  | .nopEdC0 x => [byte 0xED, byte (0xC0 + x.val)]
  | .addXyPp xy pp => [xy.prefixByte, byte (0x09 + 16 * pp.code)]
  | .ldXyNn xy nn => xy.prefixByte :: byte 0x21 :: wordBytes nn
  | .ldMemNnXy nn xy => xy.prefixByte :: byte 0x22 :: wordBytes nn
  | .incXy xy => [xy.prefixByte, byte 0x23]
  | .ldXyMemNn xy nn => xy.prefixByte :: byte 0x2A :: wordBytes nn
  | .decXy xy => [xy.prefixByte, byte 0x2B]
  | .incXyh xy h => [xy.prefixByte, byte (0x24 + 8 * h.code)]
  | .decXyh xy h => [xy.prefixByte, byte (0x25 + 8 * h.code)]
  | .ldXyhN xy h n => [xy.prefixByte, byte (0x26 + 8 * h.code), n]
  | .incMemXyd xy d => [xy.prefixByte, byte 0x34, d]
  | .decMemXyd xy d => [xy.prefixByte, byte 0x35, d]
  | .ldMemXydN xy d n => [xy.prefixByte, byte 0x36, d, n]
  | .ldRXyh r xy h => [xy.prefixByte, byte (0x44 + 8 * r.code + h.code)]
  | .ldXyhR xy h r => [xy.prefixByte, byte (0x60 + 8 * h.code + r.code)]
  | .ldXyhXyg xy h g => [xy.prefixByte, byte (0x64 + 8 * h.code + g.code)]
  | .ldRMemXyd r xy d => [xy.prefixByte, byte (0x46 + 8 * r.code), d]
  | .ldMemXydR xy d r => [xy.prefixByte, byte (0x70 + r.code), d]
  | .addAXyh xy h => [xy.prefixByte, byte (0x84 + h.code)]
  | .addAMemXyd xy d => [xy.prefixByte, byte 0x86, d]
  | .adcAXyh xy h => [xy.prefixByte, byte (0x8C + h.code)]
  | .adcAMemXyd xy d => [xy.prefixByte, byte 0x8E, d]
  | .subXyh xy h => [xy.prefixByte, byte (0x94 + h.code)]
  | .subMemXyd xy d => [xy.prefixByte, byte 0x96, d]
  | .sbcAXyh xy h => [xy.prefixByte, byte (0x9C + h.code)]
  | .sbcAMemXyd xy d => [xy.prefixByte, byte 0x9E, d]
  | .andXyh xy h => [xy.prefixByte, byte (0xA4 + h.code)]
  | .andMemXyd xy d => [xy.prefixByte, byte 0xA6, d]
  | .xorXyh xy h => [xy.prefixByte, byte (0xAC + h.code)]
  | .xorMemXyd xy d => [xy.prefixByte, byte 0xAE, d]
  | .orXyh xy h => [xy.prefixByte, byte (0xB4 + h.code)]
  | .orMemXyd xy d => [xy.prefixByte, byte 0xB6, d]
  | .cpXyh xy h => [xy.prefixByte, byte (0xBC + h.code)]
  | .cpMemXyd xy d => [xy.prefixByte, byte 0xBE, d]
  | .popXy xy => [xy.prefixByte, byte 0xE1]
  | .exSpXy xy => [xy.prefixByte, byte 0xE3]
  | .pushXy xy => [xy.prefixByte, byte 0xE5]
  | .jpXy xy => [xy.prefixByte, byte 0xE9]
  | .ldSpXy xy => [xy.prefixByte, byte 0xF9]
  | .prefixCbIndex xy => [xy.prefixByte, byte 0xCB]
  | .indexPrefixIgnored xy o => [xy.prefixByte, o]
  | .rlcMemXyd xy d => [xy.prefixByte, byte 0xCB, d, byte 0x06]
  | .rlcMemXydR xy d r => [xy.prefixByte, byte 0xCB, d, byte (0x00 + r.code)]
  | .rrcMemXyd xy d => [xy.prefixByte, byte 0xCB, d, byte 0x0E]
  | .rrcMemXydR xy d r => [xy.prefixByte, byte 0xCB, d, byte (0x08 + r.code)]
  | .rlMemXyd xy d => [xy.prefixByte, byte 0xCB, d, byte 0x16]
  | .rlMemXydR xy d r => [xy.prefixByte, byte 0xCB, d, byte (0x10 + r.code)]
  | .rrMemXyd xy d => [xy.prefixByte, byte 0xCB, d, byte 0x1E]
  | .rrMemXydR xy d r => [xy.prefixByte, byte 0xCB, d, byte (0x18 + r.code)]
  | .slaMemXyd xy d => [xy.prefixByte, byte 0xCB, d, byte 0x26]
  | .slaMemXydR xy d r => [xy.prefixByte, byte 0xCB, d, byte (0x20 + r.code)]
  | .sraMemXyd xy d => [xy.prefixByte, byte 0xCB, d, byte 0x2E]
  | .sraMemXydR xy d r => [xy.prefixByte, byte 0xCB, d, byte (0x28 + r.code)]
  | .sllMemXyd xy d => [xy.prefixByte, byte 0xCB, d, byte 0x36]
  | .sllMemXydR xy d r => [xy.prefixByte, byte 0xCB, d, byte (0x30 + r.code)]
  | .srlMemXyd xy d => [xy.prefixByte, byte 0xCB, d, byte 0x3E]
  | .srlMemXydR xy d r => [xy.prefixByte, byte 0xCB, d, byte (0x38 + r.code)]
  | .bitBMemXyd bn xy d => [xy.prefixByte, byte 0xCB, d, byte (0x46 + 8 * bn.val)]
  | .bitBMemXydMirror bn xy d r => [xy.prefixByte, byte 0xCB, d, byte (0x40 + 8 * bn.val + r.code)]
  | .resBMemXyd bn xy d => [xy.prefixByte, byte 0xCB, d, byte (0x86 + 8 * bn.val)]
  | .resBMemXydR bn xy d r => [xy.prefixByte, byte 0xCB, d, byte (0x80 + 8 * bn.val + r.code)]
  | .setBMemXyd bn xy d => [xy.prefixByte, byte 0xCB, d, byte (0xC6 + 8 * bn.val)]
  | .setBMemXydR bn xy d r => [xy.prefixByte, byte 0xCB, d, byte (0xC0 + 8 * bn.val + r.code)]

/-! ### The table's words -/

/-- The bytes of a word of the opcode table with `nbits` bits, in memory order.

The table writes a row of several bytes as one number with the first byte as its most significant byte (R143: `prefix
bytes first`), so every row longer than 8 bits has a prefix there. A word whose most significant byte is no prefix is
read with its least significant byte first (log 7). -/
def tableBytes (nbits w : Nat) : List Byte :=
  let n := min ((nbits + 7) / 8) 4
  let low := (List.range n).map fun k => byte (w / 256 ^ k)
  match low.reverse with
  | b :: bs => if isPrefixByte b then b :: bs else low
  | [] => []

/-- The four bytes that stand at the instruction's address for a word of the table: its own, then zeros. -/
def tableBytes4 (nbits w : Nat) : List Byte := (tableBytes nbits w ++ [0, 0, 0, 0]).take 4

/-- The instruction the decoder reads from a word of the opcode table. The operand bytes that the table gives no bits
are zeros; a row that is a prefix alone has no byte after it (log 7, log 8). -/
def decodeTableWord (nbits w : Nat) : Option Instr :=
  match decode (tableBytes nbits w) with
  | .ok d => some d.instr
  | .error _ =>
    match decode (tableBytes4 nbits w) with
    | .ok d => some d.instr
    | .error _ => none

end Sys2Proof
end

