-- ==== Sys2Proof/Config.lean ====
section
/-! DEFINITION. The implementation parameters of spec/00_scope.md R6.

A parameter whose value the spec fixes is a constant here. A parameter that is OPEN, or that the spec lets take
several values, is a field of `Config`; a machine carries its `Config` in its state (`State.cfg`) and no step changes
it, so a statement about every state is a statement about every value of these parameters (R6, log 3). -/

namespace Sys2Proof

/-- `ROM_SIZE` (R6, R82): 8192 bytes. -/
def Config.romSize : Nat := 8192

/-- `LINE_T` (R6, R520): T-states of a video line. -/
def Config.lineT : Nat := 207

/-- `FB_WIDTH` (R6, R525): pixels of a frame-buffer line, 2 x `LINE_T`. -/
def Config.fbWidth : Nat := 414

/-- `FB_LINES` (R6, R525): lines of the frame buffer. -/
def Config.fbLines : Nat := 312

/-- `RAM_CLEAR_VALUE` (R6, R603): the byte that a RAM-clearing reset writes. -/
def Config.ramClearValue : Byte := 0x00

/-- `OUT_C_ZERO_VALUE` (R6, R440): the NMOS value of the undocumented `OUT (C),0`. -/
def Config.outCZeroValue : Byte := 0x00

/-- `CLOCK_HZ` (R6, R620): informative only, no rule depends on it. -/
def Config.clockHz : Nat := 3250000

/-- The values `RAM_SIZE` may take (R6). -/
inductive RamSize where
  | k1 | k2 | k4 | k8 | k16
deriving DecidableEq, Repr

/-- `RAM_SIZE` in bytes (R6): a power of two from 1024 to 16384. -/
def RamSize.bytes : RamSize → Nat
  | .k1 => 1024
  | .k2 => 2048
  | .k4 => 4096
  | .k8 => 8192
  | .k16 => 16384

/-- `BLOCK_REPEAT_FLAGS` (R6, R260, D22): the flags after an iteration that repeats.

`asFinal` is the default the spec names: the formulas of a final iteration. `anyValue` stands for every other
behaviour: the bits that P7 lists are free values (log 4). -/
inductive BlockRepeatFlags where
  | asFinal | anyValue
deriving DecidableEq, Repr

/-- `RESET_REGS` (R6, R601): the values after reset of the registers that the source does not name. -/
structure ResetRegs where
  af : Word
  bc : Word
  de : Word
  hl : Word
  afAlt : Word
  bcAlt : Word
  deAlt : Word
  hlAlt : Word
  ix : Word
  iy : Word
  sp : Word
  wz : Word
deriving DecidableEq, Repr

/-- The parameters of R6 that are OPEN or that take several values. -/
structure Config where
  /-- `FLOATING_BUS` (R97, D7): the byte of an I/O read that no device answers; not zero (`Config.wf`). -/
  floatingBus : Byte
  /-- `INT_ACK_DATA` (R508, D17): the data byte of a maskable acknowledge. -/
  intAckData : Byte
  /-- `RAM_SIZE` (R82, D4). -/
  ramSize : RamSize
  /-- `RAM_POWER_ON_FILL` (R604, D35). -/
  ramPowerOnFill : Byte
  /-- `RESET_CLEARS_RAM` (R603, D36). -/
  resetClearsRam : Bool
  /-- `RESET_REGS` (R601, D9). -/
  resetRegs : ResetRegs
  /-- `BLOCK_REPEAT_FLAGS` (R260, D22). -/
  blockRepeatFlags : BlockRepeatFlags
  /-- `HSYNC_SYNC_ON_INTACK` (R520, D26). -/
  hsyncSyncOnIntAck : Bool
  /-- `MAX_FRAME_CYCLES` (R527, D32). -/
  maxFrameCycles : Nat
  /-- `INT_FROM_A6` (R516, D23). -/
  intFromA6 : Bool
deriving DecidableEq, Repr

/-- R97: the floating-bus value is a fixed byte that is not zero. -/
def Config.wf (cfg : Config) : Bool := cfg.floatingBus != 0x00

/-- The default of `RESET_REGS` (R601): 0xFFFF each. DESIGN CHOICE, unsafe (log 1). -/
def ResetRegs.default : ResetRegs :=
  { af := 0xFFFF, bc := 0xFFFF, de := 0xFFFF, hl := 0xFFFF, afAlt := 0xFFFF, bcAlt := 0xFFFF, deAlt := 0xFFFF,
    hlAlt := 0xFFFF, ix := 0xFFFF, iy := 0xFFFF, sp := 0xFFFF, wz := 0xFFFF }

/-- The default of every parameter, as R6 lists it. DESIGN CHOICE where R6 says OPEN, unsafe (log 3). -/
def Config.default : Config :=
  { floatingBus := 0xFF, intAckData := 0xFF, ramSize := .k16, ramPowerOnFill := 0x00, resetClearsRam := false,
    resetRegs := .default, blockRepeatFlags := .asFinal, hsyncSyncOnIntAck := false, maxFrameCycles := 1000000,
    intFromA6 := true }

/-- The free values behind `BlockRepeatFlags.anyValue` (P7): the n-th one is `freeRepeatFlags n`. It has no body, so
nothing can be proved about its bits (log 5). -/
opaque Config.freeRepeatFlags : Nat → Byte

end Sys2Proof
end

