-- ==== Sys2Proof/Machine/Flags.lean ====
section
/-! DEFINITION. Every flag computation of the spec: the flag byte (spec/10_state.md R46), the helper functions of
spec/00_scope.md R12, and the shared computations of spec/42 to spec/47. A computation converts to integers, computes
exactly, and narrows at the end. -/

namespace Sys2Proof.Machine

/-! ### The flag byte (R46) -/

/-- `F(S=..,Z=..,..)` (R12): S is bit 7, Z 6, Y 5, H 4, X 3, P/V 2, N 1, C 0. -/
def packF (s z y h x pv n c : Bool) : Byte :=
  BitVec.ofBool s ++ BitVec.ofBool z ++ BitVec.ofBool y ++ BitVec.ofBool h ++ BitVec.ofBool x ++ BitVec.ofBool pv ++
    BitVec.ofBool n ++ BitVec.ofBool c

/-- S, bit 7. -/
def flagS (f : Byte) : Bool := f.getLsbD 7
/-- Z, bit 6. -/
def flagZ (f : Byte) : Bool := f.getLsbD 6
/-- Y, bit 5. -/
def flagY (f : Byte) : Bool := f.getLsbD 5
/-- H, bit 4. -/
def flagH (f : Byte) : Bool := f.getLsbD 4
/-- X, bit 3. -/
def flagX (f : Byte) : Bool := f.getLsbD 3
/-- P/V, bit 2. -/
def flagPV (f : Byte) : Bool := f.getLsbD 2
/-- N, bit 1. -/
def flagN (f : Byte) : Bool := f.getLsbD 1
/-- C, bit 0. -/
def flagC (f : Byte) : Bool := f.getLsbD 0

/-- `parity(v)` (R12): an even number of 1 bits. -/
def parity (v : Byte) : Bool :=
  !(v.getLsbD 0 ^^ v.getLsbD 1 ^^ v.getLsbD 2 ^^ v.getLsbD 3 ^^ v.getLsbD 4 ^^ v.getLsbD 5 ^^ v.getLsbD 6 ^^ v.getLsbD 7)

/-- `SZP(v)` with H, N and C given (R12): S, Z, Y and X from `v`, P/V its parity. -/
def szpF (v : Byte) (h n c : Bool) : Byte :=
  packF (v.getLsbD 7) (v == 0) (v.getLsbD 5) h (v.getLsbD 3) (parity v) n c

/-- A condition of table `cc` (R125). -/
def condHolds (cc : Cond) (f : Byte) : Bool :=
  match cc with
  | .nz => !flagZ f
  | .z => flagZ f
  | .nc => !flagC f
  | .c => flagC f
  | .po => !flagPV f
  | .pe => flagPV f
  | .p => !flagS f
  | .m => flagS f

/-- A condition of `JR cc,e` (R125, R393). -/
def cond4Holds (cc : Cond4) (f : Byte) : Bool :=
  match cc with
  | .nz => !flagZ f
  | .z => flagZ f
  | .nc => !flagC f
  | .c => flagC f

/-! ### 8-bit arithmetic and logic (spec/43_alu8.md) -/

/-- `Add8(a, v, cin)` (R281): the result and the new F. -/
def add8 (a v : Byte) (cin : Bool) : Byte × Byte :=
  let sum := a.toNat + v.toNat + cin.toNat
  let res := byte sum
  let half := a.toNat % 16 + v.toNat % 16 + cin.toNat
  let ovf := (a.getLsbD 7 == v.getLsbD 7) && (res.getLsbD 7 != a.getLsbD 7)
  (res, packF (res.getLsbD 7) (res == 0) (res.getLsbD 5) (decide (half > 0xF)) (res.getLsbD 3) ovf false
    (decide (sum > 0xFF)))

/-- `Sub8(a, v, cin)` (R282): the result and the new F. -/
def sub8 (a v : Byte) (cin : Bool) : Byte × Byte :=
  let diff : Int := (a.toNat : Int) - (v.toNat : Int) - (cin.toNat : Int)
  let res : Byte := BitVec.ofInt 8 diff
  let half : Int := (a.toNat % 16 : Nat) - (v.toNat % 16 : Nat) - (cin.toNat : Int)
  let ovf := (a.getLsbD 7 != v.getLsbD 7) && (res.getLsbD 7 != a.getLsbD 7)
  (res, packF (res.getLsbD 7) (res == 0) (res.getLsbD 5) (decide (half < 0)) (res.getLsbD 3) ovf true
    (decide (diff < 0)))

/-- AND (R283). -/
def and8 (a v : Byte) : Byte × Byte :=
  let res := a &&& v
  (res, szpF res true false false)

/-- XOR (R283). -/
def xor8 (a v : Byte) : Byte × Byte :=
  let res := a ^^^ v
  (res, szpF res false false false)

/-- OR (R283). -/
def or8 (a v : Byte) : Byte × Byte :=
  let res := a ||| v
  (res, szpF res false false false)

/-- The new F of `CP` (R291): `Sub8`, with Y and X from the operand. -/
def cpF (a v : Byte) : Byte :=
  let f := (sub8 a v false).2
  packF (flagS f) (flagZ f) (v.getLsbD 5) (flagH f) (v.getLsbD 3) (flagPV f) (flagN f) (flagC f)

/-- `INC` (R292): the result and the new F; C is kept. -/
def inc8 (v f : Byte) : Byte × Byte :=
  let res := v + 1
  (res, packF (res.getLsbD 7) (res == 0) (res.getLsbD 5) (decide (v.toNat % 16 = 0xF)) (res.getLsbD 3) (v == 0x7F)
    false (flagC f))

/-- `DEC` (R295): the result and the new F; C is kept. -/
def dec8 (v f : Byte) : Byte × Byte :=
  let res := v - 1
  (res, packF (res.getLsbD 7) (res == 0) (res.getLsbD 5) (decide (v.toNat % 16 = 0)) (res.getLsbD 3) (v == 0x80)
    true (flagC f))

/-- `DAA` (R298): the new A and F. -/
def daa8 (a f : Byte) : Byte × Byte :=
  let lo := a.toNat % 16
  let high := flagC f || decide (a.toNat > 0x99)
  let low := flagH f || decide (lo > 9)
  let diff : Byte := (if high then 0x60 else 0) ||| (if low then 0x06 else 0)
  let res := if flagN f then a - diff else a + diff
  let h := if flagN f then flagH f && decide (lo < 6) else decide (lo > 9)
  (res, szpF res h (flagN f) high)

/-- `CPL` (R299): the new A and F. -/
def cpl8 (a f : Byte) : Byte × Byte :=
  let res := ~~~a
  (res, packF (flagS f) (flagZ f) (res.getLsbD 5) true (res.getLsbD 3) (flagPV f) true (flagC f))

/-- The byte whose bits 5 and 3 `SCF` and `CCF` copy (R301, R302, `SCF_CCF_XY = zilog_q`): `(Q ^ F) | A`. -/
def scfCcfSource (q f a : Byte) : Byte := (q ^^^ f) ||| a

/-- The new F of `SCF` (R302). -/
def scfF (q f a : Byte) : Byte :=
  let v := scfCcfSource q f a
  packF (flagS f) (flagZ f) (v.getLsbD 5) false (v.getLsbD 3) (flagPV f) false true

/-- The new F of `CCF` (R301). -/
def ccfF (q f a : Byte) : Byte :=
  let v := scfCcfSource q f a
  packF (flagS f) (flagZ f) (v.getLsbD 5) (flagC f) (v.getLsbD 3) (flagPV f) false (!flagC f)

/-! ### 16-bit arithmetic (spec/44_alu16.md) -/

/-- `ADD HL,ss` (R330): the result and the new F; S, Z and P/V are kept. -/
def add16 (x y : Word) (f : Byte) : Word × Byte :=
  let sum := x.toNat + y.toNat
  let res : Word := BitVec.ofNat 16 sum
  (res, packF (flagS f) (flagZ f) (res.getLsbD 13) (decide (x.toNat % 0x1000 + y.toNat % 0x1000 > 0xFFF))
    (res.getLsbD 11) (flagPV f) false (decide (sum > 0xFFFF)))

/-- `ADC HL,ss` (R331): the result and the new F. -/
def adc16 (x y : Word) (cin : Bool) : Word × Byte :=
  let sum := x.toNat + y.toNat + cin.toNat
  let res : Word := BitVec.ofNat 16 sum
  let half := x.toNat % 0x1000 + y.toNat % 0x1000 + cin.toNat
  let ovf := (x.getLsbD 15 == y.getLsbD 15) && (res.getLsbD 15 != x.getLsbD 15)
  (res, packF (res.getLsbD 15) (res == 0) (res.getLsbD 13) (decide (half > 0xFFF)) (res.getLsbD 11) ovf false
    (decide (sum > 0xFFFF)))

/-- `SBC HL,ss` (R332): the result and the new F. -/
def sbc16 (x y : Word) (cin : Bool) : Word × Byte :=
  let diff : Int := (x.toNat : Int) - (y.toNat : Int) - (cin.toNat : Int)
  let res : Word := BitVec.ofInt 16 diff
  let half : Int := (x.toNat % 0x1000 : Nat) - (y.toNat % 0x1000 : Nat) - (cin.toNat : Int)
  let ovf := (x.getLsbD 15 != y.getLsbD 15) && (res.getLsbD 15 != x.getLsbD 15)
  (res, packF (res.getLsbD 15) (res == 0) (res.getLsbD 13) (decide (half < 0)) (res.getLsbD 11) ovf true
    (decide (diff < 0)))

/-! ### Rotates, shifts and bits (spec/45_rotate_bit.md) -/

/-- `Rot8(op, v, cin)` (R354): the result and the bit shifted out. -/
def rot8 (op : RotOp) (v : Byte) (cin : Bool) : Byte × Bool :=
  match op with
  | .rlc => ((v <<< 1) ||| bitByte (v.getLsbD 7), v.getLsbD 7)
  | .rrc => ((v >>> 1) ||| (bitByte (v.getLsbD 0) <<< 7), v.getLsbD 0)
  | .rl => ((v <<< 1) ||| bitByte cin, v.getLsbD 7)
  | .rr => ((v >>> 1) ||| (bitByte cin <<< 7), v.getLsbD 0)
  | .sla => (v <<< 1, v.getLsbD 7)
  | .sra => ((v >>> 1) ||| (v &&& 0x80), v.getLsbD 0)
  | .sll => ((v <<< 1) ||| 1, v.getLsbD 7)
  | .srl => (v >>> 1, v.getLsbD 0)

/-- A CB rotate or shift (R354): the result and the new F, all 8 flags written. -/
def rotF (op : RotOp) (v f : Byte) : Byte × Byte :=
  let r := rot8 op v (flagC f)
  (r.1, szpF r.1 false false r.2)

/-- An accumulator rotate (R350 to R353): the new A and F; S, Z and P/V are kept. -/
def rotAF (op : RotOp) (a f : Byte) : Byte × Byte :=
  let r := rot8 op a (flagC f)
  (r.1, packF (flagS f) (flagZ f) (r.1.getLsbD 5) false (r.1.getLsbD 3) (flagPV f) false r.2)

/-- The new F of `BIT` (R366 to R368): bit `bn` of `v`, with Y and X from bits 5 and 3 of `yx`. C is kept. -/
def bitF (bn : Fin 8) (v yx f : Byte) : Byte :=
  let t := v.getLsbD bn.val
  packF (decide (bn.val = 7) && t) (!t) (yx.getLsbD 5) true (yx.getLsbD 3) (!t) false (flagC f)

/-- `RLD` (R364): the new memory byte and the new A. -/
def rld8 (a m : Byte) : Byte × Byte :=
  ((m <<< 4) ||| (a &&& 0x0F), (a &&& 0xF0) ||| (m >>> 4))

/-- `RRD` (R365): the new memory byte and the new A. -/
def rrd8 (a m : Byte) : Byte × Byte :=
  ((a <<< 4) ||| (m >>> 4), (a &&& 0xF0) ||| (m &&& 0x0F))

/-- S, Z, Y, X and P/V of `v`, H and N clear, C kept: `RLD`, `RRD` (R364), `IN r,(C)`, `IN F,(C)` (R432). -/
def inF (v f : Byte) : Byte := szpF v false false (flagC f)

/-- The new F of `LD A,I` and `LD A,R` (R214, R215): P/V is IFF2, C is kept. -/
def ldAirF (v f : Byte) (iff2 : Bool) : Byte :=
  packF (v.getLsbD 7) (v == 0) (v.getLsbD 5) false (v.getLsbD 3) iff2 false (flagC f)

/-! ### Block instructions (spec/42_block_transfer_search.md, spec/47_io.md) -/

/-- The new F of `LDI` and `LDD` (R261): `v` the byte moved, `bc` the new BC. S, Z and C are kept. -/
def ldBlockF (v a f : Byte) (bc : Word) : Byte :=
  let n := v + a
  packF (flagS f) (flagZ f) (n.getLsbD 1) false (n.getLsbD 3) (bc != 0) false (flagC f)

/-- The new F of `CPI` and `CPD` (R265): `v` the byte compared, `bc` the new BC. C is kept. -/
def cpBlockF (a v f : Byte) (bc : Word) : Byte :=
  let res := a - v
  let h := decide (a.toNat % 16 < v.toNat % 16)
  let n := res - bitByte h
  packF (res.getLsbD 7) (res == 0) (n.getLsbD 1) h (n.getLsbD 3) (bc != 0) true (flagC f)

/-- The new F of the I/O block group (R430): `v` the byte moved, `k` the 9-bit sum, `b` the new B. -/
def ioBlockF (v : Byte) (k : Nat) (b : Byte) : Byte :=
  let carry := decide (k > 0xFF)
  packF (b.getLsbD 7) (b == 0) (b.getLsbD 5) carry (b.getLsbD 3) (parity ((byte k &&& 7) ^^^ b)) (v.getLsbD 7) carry

/-- The flag bits that `BLOCK_REPEAT_FLAGS` leaves open for `LDIR`, `LDDR`, `CPIR`, `CPDR` (R260, P7): 5 and 3. -/
def memRepeatMask : Byte := 0x28

/-- The flag bits that it leaves open for `INIR`, `INDR`, `OTIR`, `OTDR` (R430, P7): 5, 4 (H), 3 and 2 (P/V). -/
def ioRepeatMask : Byte := 0x3C

/-- F after an iteration that repeats (R260): `f` itself under `as_final`; otherwise the bits of `mask` are the free
value number `ix` (log 4, log 5). -/
def repeatF (mode : BlockRepeatFlags) (mask f : Byte) (ix : Nat) : Byte :=
  match mode with
  | .asFinal => f
  | .anyValue => (f &&& ~~~mask) ||| (Config.freeRepeatFlags ix &&& mask)

end Sys2Proof.Machine
end

