-- ==== Sys2Proof/Machine/State.lean ====
section
/-! DEFINITION. The state of the machine (spec/10_state.md), all of it plain data, and the state after reset
(spec/10_state.md R68, spec/70_reset_and_hazards.md R600 to R604). -/

namespace Sys2Proof.Machine

/-- Bytes by index, in one canonical form (`Memory.wf` of Machine/Memory.lean): indices strictly rising, no entry equal
to what an unlisted index reads as. -/
abbrev Memory := List Host.Cell

/-- A one-bit picture as the rising list of its ink pixels: pixel (x, y) is `y * FB_WIDTH + x` (R525, log 16). -/
abbrev Pixels := List Nat

/-- The register file (R40 to R45, R49, R50, R53). The four shadow registers are `afAlt` (AF') to `hlAlt` (HL'). -/
structure Regs where
  /-- A, the accumulator (R40). -/
  a : Byte
  /-- F, the flags (R46). -/
  f : Byte
  b : Byte
  c : Byte
  d : Byte
  e : Byte
  h : Byte
  l : Byte
  /-- AF' (R42). -/
  afAlt : Word
  bcAlt : Word
  deAlt : Word
  hlAlt : Word
  ix : Word
  iy : Word
  sp : Word
  pc : Word
  /-- WZ, MEMPTR (R53). -/
  wz : Word
  /-- I, the interrupt vector register (R49). -/
  i : Byte
  /-- R, the memory-refresh register (R50). -/
  r : Byte
deriving DecidableEq, Repr

/-- The interrupt mode (R52): always 0, 1 or 2. -/
inductive IntMode where
  | im0 | im1 | im2
deriving DecidableEq, Repr

/-- The CPU's control bits (R51, R52, R54 to R60). -/
structure Ctl where
  iff1 : Bool
  iff2 : Bool
  im : IntMode
  /-- Q: the flags the last step wrote, or 0 (R54). -/
  q : Byte
  halted : Bool
  /-- `ei_block` (R56). -/
  eiBlock : Bool
  /-- `prefix_block` (R57). -/
  prefixBlock : Bool
  /-- `ldair` (R60). -/
  ldair : Bool
  /-- `nmi_pending` (R58). -/
  nmiPending : Bool
  /-- `int_req` (R59). -/
  intReq : Bool
  /-- `int_line` (R59, R516). -/
  intLine : Bool
deriving DecidableEq, Repr

/-- The cycle clock (R61) and the accounting of one step (log 6). While a step runs, `cycles` is the clock at the step's
start (after an ignored index prefix: 4 more, the `off` of R103). -/
structure Clock where
  /-- `cycles` (R61). -/
  cycles : Nat
  /-- T-states of the step: what `step()` returns (R618). -/
  stepT : Nat
  /-- M1 cycles of the step (R141). -/
  stepM1 : Nat
  /-- `Rlast` (R516): R before the increment of the step's last M1. -/
  stepR : Byte
deriving DecidableEq, Repr

/-- The ULA's video and I/O state (R67). -/
structure Ula where
  /-- `nmi_gen_on`. -/
  nmiGenOn : Bool
  vsync : Bool
  lcntr : BitVec 3
  /-- `line_no`. -/
  lineNo : Nat
  /-- `line_start`. -/
  lineStart : Nat
  /-- `next_line`. -/
  nextLine : Nat
  /-- `frame_complete`. -/
  frameComplete : Bool
  fb : Pixels
  /-- `fb_out`. -/
  fbOut : Pixels
  /-- The key matrix: key (row, col) is bit 5 * row + col, 1 = pressed. -/
  keys : BitVec 40
deriving DecidableEq, Repr

/-- An I/O write as the bus shows it (R5, R95, R103). -/
structure IoWrite where
  port : Word
  value : Byte
  stamp : Nat
deriving DecidableEq, Repr

/-- The whole machine: CPU, ULA, memory, frame sequencer and parameters. -/
structure State where
  regs : Regs
  ctl : Ctl
  clk : Clock
  ula : Ula
  /-- ROM, `ROM_SIZE` bytes by index (R66). -/
  rom : Memory
  /-- RAM, `RAM_SIZE` bytes by index (R66). -/
  ram : Memory
  /-- The I/O write of the last step, if it made one (R5, log 6). -/
  busOut : Option IoWrite
  /-- `frame_counter` (R528). -/
  frameCounter : Nat
  /-- Index of the next free value (log 5). -/
  freeIx : Nat
  /-- The parameters of R6; no step changes them (log 3). -/
  cfg : Config
deriving DecidableEq, Repr

/-- Why the machine stops with a fault: it never does. The CPU raises no synchronous exception (R500), the memory and the
I/O space are total (R80, R98), no encoding is illegal (R138), and no step returns an error (R530). The type has no
constructor, so no step can raise one (log 13). -/
inductive Fault where
deriving DecidableEq, Repr

/-- Why the model refuses a step. -/
inductive Refusal where
  /-- Raised by `exec` for an instruction that has no meaning yet. Safe. No arm raises it. -/
  | notModelled (mnemonic : String)
  /-- Raised by a mode 0 acceptance whose data byte is no `RST` opcode: the spec gives it no meaning and asks for this
  refusal (R509, P6; log 11). Safe. -/
  | im0DataNotRst (data : Byte)
deriving DecidableEq, Repr

/-- The CPU and ULA of a machine that has just been reset, over the parameters `cfg` (R68, R600, R601). -/
def resetRegs (cfg : Config) : Regs :=
  let v := cfg.resetRegs
  { a := v.af.extractLsb' 8 8, f := v.af.extractLsb' 0 8,
    b := v.bc.extractLsb' 8 8, c := v.bc.extractLsb' 0 8,
    d := v.de.extractLsb' 8 8, e := v.de.extractLsb' 0 8,
    h := v.hl.extractLsb' 8 8, l := v.hl.extractLsb' 0 8,
    afAlt := v.afAlt, bcAlt := v.bcAlt, deAlt := v.deAlt, hlAlt := v.hlAlt,
    ix := v.ix, iy := v.iy, sp := v.sp, pc := 0x0000, wz := v.wz, i := 0x00, r := 0x00 }

/-- The control bits after reset (R68, R600). -/
def resetCtl : Ctl :=
  { iff1 := false, iff2 := false, im := .im0, q := 0x00, halted := false, eiBlock := false, prefixBlock := false,
    ldair := false, nmiPending := false, intReq := false, intLine := false }

/-- Machine construction with the parameters `cfg` (R602, R604; R68, construction column). -/
def State.construct (cfg : Config) : State :=
  { regs := resetRegs cfg
    ctl := resetCtl
    clk := { cycles := 0, stepT := 0, stepM1 := 0, stepR := 0x00 }
    ula := { nmiGenOn := false, vsync := false, lcntr := 0, lineNo := 0, lineStart := 0, nextLine := Config.lineT,
             frameComplete := false, fb := [], fbOut := [], keys := 0 }
    rom := []
    ram := []
    busOut := none
    frameCounter := 0
    freeIx := 0
    cfg := cfg }

/-- The machine right after construction and reset, with every parameter at the spec's default (R6, R602; log 12). -/
def State.reset : State := State.construct Config.default

end Sys2Proof.Machine
end

