-- ==== Sys2Proof/Machine/Memory.lean ====
section
/-! DEFINITION. Memories and pictures in canonical form, and the address map (spec/20_memory.md R80 to R89). -/

namespace Sys2Proof.Machine

/-! ### Bytes by index -/

/-- The byte at index `k` of a memory whose unlisted bytes are `dflt`. -/
def Memory.read (dflt : Byte) : Memory → Nat → Byte
  | [], _ => dflt
  | (k', v) :: m, k => if k = k' then v else Memory.read dflt m k

/-- The memory with `v` at index `k`, in canonical form again: the default value is never listed. -/
def Memory.write (dflt : Byte) : Memory → Nat → Byte → Memory
  | [], k, v => if v = dflt then [] else [(k, v)]
  | (k', v') :: m, k, v =>
    if k < k' then (if v = dflt then (k', v') :: m else (k, v) :: (k', v') :: m)
    else if k = k' then (if v = dflt then m else (k, v) :: m)
    else (k', v') :: Memory.write dflt m k v

/-- The memory of `n` bytes that all hold `v`. -/
def Memory.fill (dflt : Byte) (n : Nat) (v : Byte) : Memory :=
  if v = dflt then [] else (List.range n).map fun k => (k, v)

/-- The canonical form: indices strictly rising and below `bound`, no listed byte equal to the default. -/
abbrev Memory.wf (dflt : Byte) (bound : Nat) (m : Memory) : Prop :=
  m.Pairwise (fun x y => x.1 < y.1) ∧ ∀ x ∈ m, x.2 ≠ dflt ∧ x.1 < bound

/-! ### One-bit pictures -/

/-- The picture with pixel `k` set to `ink` (R524). -/
def Pixels.put : Pixels → Nat → Bool → Pixels
  | [], k, ink => if ink then [k] else []
  | k' :: m, k, ink =>
    if k < k' then (if ink then k :: k' :: m else k' :: m)
    else if k = k' then (if ink then k' :: m else m)
    else k' :: Pixels.put m k ink

/-- Is pixel `k` ink? -/
def Pixels.get (m : Pixels) (k : Nat) : Bool := m.contains k

/-- The canonical form: pixel numbers strictly rising and inside the frame buffer (R525). -/
abbrev Pixels.wf (m : Pixels) : Prop :=
  m.Pairwise (· < ·) ∧ ∀ k ∈ m, k < Config.fbWidth * Config.fbLines

/-! ### The address map -/

/-- Where the map of R82 sends an address: an index of ROM or of RAM. -/
inductive Place where
  | rom (ix : Nat)
  | ram (ix : Nat)
deriving DecidableEq, Repr

/-- R82: A15 is not decoded; ROM repeats through 0x0000-0x3FFF, RAM through 0x4000-0x7FFF. The sizes are powers of two,
so the remainder is the masking `& (SIZE - 1)` of the rule. -/
def place (cfg : Config) (addr : Word) : Place :=
  let a := addr.toNat % 0x8000
  if a < 0x4000 then .rom (a % Config.romSize) else .ram ((a - 0x4000) % cfg.ramSize.bytes)

/-- What an unlisted ROM byte reads as: 0x00 until an image is loaded (R68, D35). -/
def romDefault : Byte := 0x00

/-- `MemRead(addr, 1)` (R84 to R86): total, without side effect (R104). An unlisted ROM byte reads as 0x00, an unlisted
RAM byte as `RAM_POWER_ON_FILL` (R604, log 2). -/
def memRead (s : State) (addr : Word) : Byte :=
  match place s.cfg addr with
  | .rom k => Memory.read romDefault s.rom k
  | .ram k => Memory.read s.cfg.ramPowerOnFill s.ram k

/-- `MemWrite(addr, 1, v)` (R84, R85, R87): a write to ROM is dropped. -/
def memWrite (s : State) (addr : Word) (v : Byte) : State :=
  match place s.cfg addr with
  | .rom _ => s
  | .ram k => { s with ram := Memory.write s.cfg.ramPowerOnFill s.ram k v }

/-- `RawWrite(addr, v)` (R106): stores to ROM and RAM alike. -/
def rawWrite (s : State) (addr : Word) (v : Byte) : State :=
  match place s.cfg addr with
  | .rom k => { s with rom := Memory.write romDefault s.rom k v }
  | .ram k => { s with ram := Memory.write s.cfg.ramPowerOnFill s.ram k v }

/-- `RawWrite` of a list of bytes at rising addresses (R531). -/
def rawWriteBytes : List Byte → Word → State → State
  | [], _, s => s
  | v :: vs, addr, s => rawWriteBytes vs (addr + 1) (rawWrite s addr v)

/-- Every memory and picture of the state has its canonical form. -/
abbrev State.memWf (s : State) : Prop :=
  Memory.wf romDefault Config.romSize s.rom ∧ Memory.wf s.cfg.ramPowerOnFill s.cfg.ramSize.bytes s.ram ∧
    Pixels.wf s.ula.fb ∧ Pixels.wf s.ula.fbOut

end Sys2Proof.Machine
end

