-- ==== Sys2Proof/Machine/Operands.lean ====
section
/-! DEFINITION. The operand forms (spec/30_encoding.md R122 to R135): reading and writing registers, pairs, index
registers and their bytes, and the addresses of memory operands. All reads and writes of a numbered register go through
here. -/

namespace Sys2Proof.Machine

/-! ### Pairs (R41) -/

/-- AF = A : F. -/
def Regs.af (g : Regs) : Word := joinBytes g.a g.f
/-- BC = B : C. -/
def Regs.bc (g : Regs) : Word := joinBytes g.b g.c
/-- DE = D : E. -/
def Regs.de (g : Regs) : Word := joinBytes g.d g.e
/-- HL = H : L. -/
def Regs.hl (g : Regs) : Word := joinBytes g.h g.l

/-- Write both halves of AF. -/
def setAF (v : Word) (g : Regs) : Regs := { g with a := hiByte v, f := loByte v }
/-- Write both halves of BC. -/
def setBC (v : Word) (g : Regs) : Regs := { g with b := hiByte v, c := loByte v }
/-- Write both halves of DE. -/
def setDE (v : Word) (g : Regs) : Regs := { g with d := hiByte v, e := loByte v }
/-- Write both halves of HL. -/
def setHL (v : Word) (g : Regs) : Regs := { g with h := hiByte v, l := loByte v }

/-! ### Register operands -/

/-- Read `r[z]` (R122). -/
def getR8 (r : Reg8) (g : Regs) : Byte :=
  match r with
  | .b => g.b | .c => g.c | .d => g.d | .e => g.e | .h => g.h | .l => g.l | .a => g.a

/-- Write `r[z]` (R122): the other half of the pair is unchanged (R41). -/
def setR8 (r : Reg8) (v : Byte) (g : Regs) : Regs :=
  match r with
  | .b => { g with b := v }
  | .c => { g with c := v }
  | .d => { g with d := v }
  | .e => { g with e := v }
  | .h => { g with h := v }
  | .l => { g with l := v }
  | .a => { g with a := v }

/-- Read `rp[p]` (R123). -/
def getRP (p : RP) (g : Regs) : Word :=
  match p with
  | .bc => g.bc | .de => g.de | .hl => g.hl | .sp => g.sp

/-- Write `rp[p]` (R123). -/
def setRP (p : RP) (v : Word) (g : Regs) : Regs :=
  match p with
  | .bc => setBC v g
  | .de => setDE v g
  | .hl => setHL v g
  | .sp => { g with sp := v }

/-- Read `rp2[p]` (R124). -/
def getRP2 (p : RP2) (g : Regs) : Word :=
  match p with
  | .bc => g.bc | .de => g.de | .hl => g.hl | .af => g.af

/-- Write `rp2[p]` (R124). -/
def setRP2 (p : RP2) (v : Word) (g : Regs) : Regs :=
  match p with
  | .bc => setBC v g
  | .de => setDE v g
  | .hl => setHL v g
  | .af => setAF v g

/-! ### Index registers (R43, R133) -/

/-- Read IX or IY. -/
def getXY (xy : XY) (g : Regs) : Word :=
  match xy with
  | .ix => g.ix
  | .iy => g.iy

/-- Write IX or IY. -/
def setXY (xy : XY) (v : Word) (g : Regs) : Regs :=
  match xy with
  | .ix => { g with ix := v }
  | .iy => { g with iy := v }

/-- Read XYH or XYL (R43). -/
def getHalf (xy : XY) (h : Half) (g : Regs) : Byte :=
  match h with
  | .high => hiByte (getXY xy g)
  | .low => loByte (getXY xy g)

/-- Write XYH or XYL: the other byte of the index register is unchanged (R43, R219). -/
def setHalf (xy : XY) (h : Half) (v : Byte) (g : Regs) : Regs :=
  match h with
  | .high => setXY xy (joinBytes v (loByte (getXY xy g))) g
  | .low => setXY xy (joinBytes (hiByte (getXY xy g)) v) g

/-- Read `rp[p]` under an index prefix: value 2 is XY (R123, R333). -/
def getRPXY (xy : XY) (p : RPXY) (g : Regs) : Word :=
  match p with
  | .bc => g.bc | .de => g.de | .xy => getXY xy g | .sp => g.sp

/-! ### Addresses (R131, R132) -/

/-- `EA = XY + sext_16(d)`, modulo 2^16 (R131). -/
def indexedAddr (xy : XY) (d : Byte) (g : Regs) : Word := getXY xy g + sext16 d

/-- The target of `JR` and `DJNZ`: `PC + sext_16(e)`, with PC after the instruction (R132). -/
def relativeTarget (e : Byte) (g : Regs) : Word := g.pc + sext16 e

/-- The port `B : C` (R94). -/
def portBC (g : Regs) : Word := g.bc

/-- The port `A : n` (R94). -/
def portAN (n : Byte) (g : Regs) : Word := joinBytes g.a n

end Sys2Proof.Machine
end

