-- ==== Sys2Proof/Machine/Video.lean ====
section
/-! DEFINITION. The ULA: the line timer, the video coordinator, the keyboard port and the NMI generator
(spec/60_exceptions.md R517 to R526), and the I/O bus in front of it (spec/20_memory.md R94 to R98). -/

namespace Sys2Proof.Machine

/-! ### The line timer (R520, R521) -/

/-- `Boundary(L)` (R520): a line boundary at cycle `t`. -/
def boundaryAt (t : Nat) (s : State) : State :=
  { s with
    ula := { s.ula with
      lineStart := t
      nextLine := t + Config.lineT
      lcntr := if s.ula.vsync then 0 else s.ula.lcntr + 1
      lineNo := s.ula.lineNo + 1 }
    ctl := { s.ctl with nmiPending := s.ctl.nmiPending || s.ula.nmiGenOn } }

/-- The next `n` line boundaries, one after the other. -/
def boundaries : Nat → State → State
  | 0, s => s
  | n + 1, s => boundaries n (boundaryAt s.ula.nextLine s)

/-- `AdvanceTo(t)` (R520): `while next_line <= t: Boundary(next_line)`. The number of rounds is counted out (log 19). -/
def advanceTo (t : Nat) (s : State) : State :=
  boundaries ((t + Config.lineT - s.ula.nextLine) / Config.lineT) s

/-- The end of a step (R520): `while next_line < t: Boundary(next_line)`. -/
def advanceBefore (t : Nat) (s : State) : State :=
  boundaries ((t + (Config.lineT - 1) - s.ula.nextLine) / Config.lineT) s

/-! ### The video coordinator (R522 to R525) -/

/-- The pattern address (R523): `I[7:1]`, then the character code, then the row. -/
def patternAddr (i raw : Byte) (row : BitVec 3) : Word :=
  (i.extractLsb' 1 7 ++ raw.extractLsb' 0 6 ++ row : BitVec 16)

/-- The pattern byte, inverted when bit 7 of the character is set (R523). -/
def patternByte (raw : Byte) (s : State) : Byte :=
  let p := memRead s (patternAddr s.regs.i raw s.ula.lcntr)
  if raw.getLsbD 7 then ~~~p else p

/-- Pixel `i` of a pattern row at column `x0 + i` of line `y` (R524); pixels outside the frame buffer are dropped
(R525). -/
def putPixel (fb : Pixels) (x0 y : Nat) (p : Byte) (i : Nat) : Pixels :=
  if x0 + i < Config.fbWidth ∧ y < Config.fbLines then
    Pixels.put fb (y * Config.fbWidth + (x0 + i)) (p.getLsbD (7 - i))
  else fb

/-- The eight pixels of a pattern row (R524): bit 7 first. -/
def putPattern (fb : Pixels) (x0 y : Nat) (p : Byte) : Pixels :=
  [0, 1, 2, 3, 4, 5, 6, 7].foldl (fun m i => putPixel m x0 y p i) fb

/-- `DrawCharacter(raw, I, stamp)` (R523, R524): two pixels a T-state. -/
def drawCharacter (raw : Byte) (stamp : Nat) (s : State) : State :=
  let fb := putPattern s.ula.fb (2 * (stamp - s.ula.lineStart)) s.ula.lineNo (patternByte raw s)
  { s with ula := { s.ula with fb := fb } }

/-- R522: is an M1 of the byte `raw` at `addr` a video fetch? -/
def isVideoFetch (addr : Word) (raw : Byte) : Bool := addr.getLsbD 15 && !raw.getLsbD 6

/-- The byte `VideoFetch` hands to the CPU (R522): 0x00, a `NOP`, on a video fetch. -/
def videoByte (addr : Word) (raw : Byte) : Byte := if isVideoFetch addr raw then 0x00 else raw

/-- What `VideoFetch` does to the state (R522): the line timer, then the character unless VSYNC is on. -/
def videoFetch (addr : Word) (raw : Byte) (stamp : Nat) (s : State) : State :=
  let s1 := advanceTo stamp s
  if isVideoFetch addr raw && !s1.ula.vsync then drawCharacter raw stamp s1 else s1

/-! ### The keyboard port and VSYNC (R517, R518, R526) -/

/-- The five key bits of a row, 1 = pressed (R67, R532). -/
def keyRow (keys : BitVec 40) (row : Nat) : BitVec 5 := keys.extractLsb' (5 * row) 5

/-- The pressed keys of every row that the port selects with a 0 on its address line A(8 + row) (R517, D60). -/
def pressedKeys (keys : BitVec 40) (port : Word) : BitVec 5 :=
  [0, 1, 2, 3, 4, 5, 6, 7].foldl
    (fun v row => if port.getLsbD (8 + row) then v else v ||| keyRow keys row) 0

/-- The byte of the keyboard port (R517): pressed keys of the selected rows read 0, every other bit is the floating
bus. -/
def keyboardByte (s : State) (port : Word) : Byte :=
  s.cfg.floatingBus &&& ~~~((pressedKeys s.ula.keys port).setWidth 8)

/-- VSYNC start (R517) with the frame handoff (R526): only while the NMI generator is off and VSYNC is not on. -/
def startVsync (s : State) : State :=
  if !s.ula.nmiGenOn && !s.ula.vsync then
    { s with ula := { s.ula with
        vsync := true
        lcntr := 0
        frameComplete := true
        fbOut := s.ula.fb
        fb := [] } }
  else s

/-- VSYNC end (R518): any I/O write while VSYNC is on. -/
def endVsync (s : State) : State :=
  if s.ula.vsync then { s with ula := { s.ula with vsync := false, lineNo := 0 } } else s

/-- The NMI generator switch (R519): on, then off, so that off wins (D46). -/
def switchNmiGen (port : Word) (s : State) : State :=
  let on := if port.getLsbD 0 then s.ula.nmiGenOn else true
  { s with ula := { s.ula with nmiGenOn := if port.getLsbD 1 then on else false } }

/-! ### The I/O bus (R94 to R98) -/

/-- What `registerHandler` has registered (R96): the ULA twice, in this order, and nothing else. -/
inductive IoDevice where
  | ulaRead | ulaWrite
deriving DecidableEq, Repr

/-- The registered devices, in registration order (R96). -/
def ioDevices : List IoDevice := [.ulaRead, .ulaWrite]

/-- Has the device a read capability that accepts the port (R96)? -/
def IoDevice.reads (dev : IoDevice) (port : Word) : Bool :=
  match dev with
  | .ulaRead => !port.getLsbD 0
  | .ulaWrite => false

/-- Has the device a write capability that accepts the port (R96)? -/
def IoDevice.writes (dev : IoDevice) (_port : Word) : Bool :=
  match dev with
  | .ulaRead => false
  | .ulaWrite => true

/-- A device's read: its byte and its side effect (R517). -/
def IoDevice.read (dev : IoDevice) (port : Word) (s : State) : Byte × State :=
  match dev with
  | .ulaRead => (keyboardByte s port, startVsync s)
  | .ulaWrite => (s.cfg.floatingBus, s)

/-- A device's write (R518, then R519); the ULA ignores the value. -/
def IoDevice.write (dev : IoDevice) (port : Word) (_v : Byte) (s : State) : State :=
  match dev with
  | .ulaRead => s
  | .ulaWrite => switchNmiGen port (endVsync s)

/-- The bitwise AND of the answers of the devices, their side effects in order (R97, D8). -/
def ioReadAll : List IoDevice → Word → State → Byte × State
  | [], _, s => (0xFF, s)
  | dev :: ds, port, s =>
    let r := dev.read port s
    let rest := ioReadAll ds port r.2
    (r.1 &&& rest.1, rest.2)

/-- `IoRead(port)` at a stamp (R95, R97, R103): the line timer first; then the devices that accept the port, or the
floating bus when there is none. -/
def ioRead (port : Word) (stamp : Nat) (s : State) : Byte × State :=
  let s1 := advanceTo stamp s
  match ioDevices.filter (·.reads port) with
  | [] => (s1.cfg.floatingBus, s1)
  | ds => ioReadAll ds port s1

/-- `IoWrite(port, v)` at a stamp (R95, R98, R103): the line timer first; then every device that accepts the port. The
write is what the bus shows of the step (R5). -/
def ioWrite (port : Word) (v : Byte) (stamp : Nat) (s : State) : State :=
  let s1 := advanceTo stamp s
  let s2 := (ioDevices.filter (·.writes port)).foldl (fun t dev => dev.write port v t) s1
  { s2 with busOut := some { port := port, value := v, stamp := stamp } }

end Sys2Proof.Machine
end

