-- ==== Sys2Proof/Machine/Ops.lean ====
section
/-! DEFINITION. The named operations the meanings are built from: words in memory and the stack (spec/20_memory.md R89,
R90), M1 cycles and fetching (R91, R92), how an instruction ends (spec/10_state.md R54, R61), taking an interrupt
(spec/60_exceptions.md R506 to R510) and returning from one (spec/46_control.md R401, R402). -/

namespace Sys2Proof.Machine

/-- The state with other registers. -/
def State.withRegs (s : State) (g : Regs) : State := { s with regs := g }

/-! ### Words in memory (R89) and the stack (R90) -/

/-- `MemRead(addr, 2)`: low byte first; each byte's address wraps on its own (R81). -/
def memRead16 (s : State) (addr : Word) : Word := joinBytes (memRead s (addr + 1)) (memRead s addr)

/-- `MemWrite(addr, 2, v)`: low byte first. -/
def memWrite16 (s : State) (addr : Word) (v : Word) : State :=
  memWrite (memWrite s addr (loByte v)) (addr + 1) (hiByte v)

/-- `Push16(v)` (R90): the high byte first, at the higher address. -/
def push16 (v : Word) (s : State) : State :=
  let sp := s.regs.sp
  let s1 := memWrite s (sp - 1) (hiByte v)
  let s2 := memWrite s1 (sp - 2) (loByte v)
  s2.withRegs { s2.regs with sp := sp - 2 }

/-- The word `Pop16()` returns (R90). -/
def popValue (s : State) : Word := memRead16 s s.regs.sp

/-- What `Pop16()` does to SP (R90). -/
def popSP (g : Regs) : Regs := { g with sp := g.sp + 2 }

/-! ### The clock and the end of an instruction -/

/-- `t` T-states pass (R61, R618). -/
def tick (t : Nat) (s : State) : State :=
  { s with clk := { s.clk with cycles := s.clk.cycles + t, stepT := s.clk.stepT + t } }

/-- `Q <- q` (R54). -/
def setQ (q : Byte) (s : State) : State := { s with ctl := { s.ctl with q := q } }

/-- The end of an instruction of `t` T-states that writes no flag: `Q <- 0` (R54). -/
def endPlain (t : Nat) (s : State) : Host.Outcome State Fault Refusal := .next (tick t (setQ 0x00 s))

/-- The end of an instruction of `t` T-states that writes flags: `Q <- F` (R54). -/
def endFlags (t : Nat) (s : State) : Host.Outcome State Fault Refusal := .next (tick t (setQ s.regs.f s))

/-! ### M1 cycles and fetching (R50, R65, R91, R92, R137) -/

/-- One increment of R (R50): bits 6:0 count, bit 7 is held. -/
def bumpR (r : Byte) : Byte := (r &&& 0x80) ||| ((r + 1) &&& 0x7F)

/-- What every M1-type cycle does (R65): R is incremented; the step's M1 count and `Rlast` are kept for R516. -/
def refreshM1 (s : State) : State :=
  { s with
    regs := { s.regs with r := bumpR s.regs.r }
    clk := { s.clk with stepM1 := s.clk.stepM1 + 1, stepR := s.regs.r } }

/-- The byte an M1 at `addr` hands to the CPU (R91, R522). -/
def m1Byte (s : State) (addr : Word) : Byte := videoByte addr (memRead s addr)

/-- `FetchM1(k)` (R91) but for the byte it returns, which is `m1Byte`: the video observer at the M1's stamp (R103), the
increment of R, the increment of PC. -/
def fetchM1 (k : Nat) (s : State) : State :=
  let s1 := refreshM1 (videoFetch s.regs.pc (memRead s s.regs.pc) (s.clk.cycles + 4 * k) s)
  s1.withRegs { s1.regs with pc := s1.regs.pc + 1 }

/-- `n` times `FetchByte()` (R92) but for the bytes: PC moves past them. -/
def skipBytes (n : Nat) (s : State) : State :=
  s.withRegs { s.regs with pc := s.regs.pc + BitVec.ofNat 16 n }

/-- The four bytes at PC as the fetch of one instruction gives them to the decoder (R137): the first by M1; the second
by M1 after a prefix; the others are plain reads, never forced (R92). -/
def fetchBytes (s : State) : List Byte :=
  let pc := s.regs.pc
  let b0 := m1Byte s pc
  let b1 := if isPrefixByte b0 then m1Byte s (pc + 1) else memRead s (pc + 1)
  [b0, b1, memRead s (pc + 2), memRead s (pc + 3)]

/-- The fetches of a decoded instruction after its first M1, in order (R91, R92, R137): a second M1 if it has one, then
its operand bytes. -/
def fetchRest (d : Decoded) (s : State) : State :=
  skipBytes (d.len - d.m1s) (if d.m1s = 2 then fetchM1 1 s else s)

/-- The M1 cycles and operand fetches of a decoded instruction, in order (R91, R92, R137). -/
def fetchDecoded (d : Decoded) (s : State) : State := fetchRest d (fetchM1 0 s)

/-- What the bytes at PC decode to (R137): always something (R138). -/
def decodeAt (s : State) : Decoded :=
  let pc := s.regs.pc
  let b0 := m1Byte s pc
  let b1 := if isPrefixByte b0 then m1Byte s (pc + 1) else memRead s (pc + 1)
  decodeBytes b0 b1 (memRead s (pc + 2)) (memRead s (pc + 3))

/-! ### Taking an interrupt (R506 to R510) and returning (R401, R402) -/

/-- What every acceptance does (R506): leave the halted state, one M1-type cycle without a memory read or a video fetch,
push PC, load PC and WZ with the entry, `Q <- 0`. The entry is computed after the push, since a mode 2 table is read
then (R510). -/
def enterInterrupt (entry : State → Word) (t : Nat) (s : State) : State :=
  let s1 := refreshM1 { s with ctl := { s.ctl with halted := false } }
  let s2 := push16 s1.regs.pc s1
  let target := entry s2
  tick t (setQ 0x00 (s2.withRegs { s2.regs with pc := target, wz := target }))

/-- `PC <- Pop16(); WZ <- PC` (R399). -/
def popPC (s : State) : State :=
  let target := popValue s
  s.withRegs { popSP s.regs with pc := target, wz := target }

/-- Return from an interrupt (R401, R402): `PC <- Pop16(); WZ <- PC; IFF1 <- IFF2`. -/
def returnFromInterrupt (s : State) : State :=
  let s1 := popPC s
  { s1 with ctl := { s1.ctl with iff1 := s1.ctl.iff2 } }

/-! ### Writing results back -/

/-- `PC <- addr`. -/
def jumpTo (addr : Word) (s : State) : State := s.withRegs { s.regs with pc := addr }

/-- `PC <- addr; WZ <- PC`. -/
def jumpLatched (addr : Word) (s : State) : State := s.withRegs { s.regs with pc := addr, wz := addr }

/-- `WZ <- v` (R53). -/
def setWZ (v : Word) (s : State) : State := s.withRegs { s.regs with wz := v }

/-- `EA <- XY + sext_16(d); WZ <- EA` (R131): afterwards the effective address stands in WZ. -/
def latchEA (xy : XY) (d : Byte) (s : State) : State := setWZ (indexedAddr xy d s.regs) s

/-- `(A, F) <- res`. -/
def putAF (res : Byte × Byte) (s : State) : State := s.withRegs { s.regs with a := res.1, f := res.2 }

/-- `F <- f`. -/
def putF (f : Byte) (s : State) : State := s.withRegs { s.regs with f := f }

/-- `(r, F) <- res`. -/
def putR8 (r : Reg8) (res : Byte × Byte) (s : State) : State :=
  s.withRegs { setR8 r res.1 s.regs with f := res.2 }

/-- `(XYh, F) <- res`. -/
def putHalf (xy : XY) (h : Half) (res : Byte × Byte) (s : State) : State :=
  s.withRegs { setHalf xy h res.1 s.regs with f := res.2 }

/-- The byte at `addr` and F become `res`; a ROM write is dropped but F is written (R85, R102). -/
def putMem (addr : Word) (res : Byte × Byte) (s : State) : State := putF res.2 (memWrite s addr res.1)

/-- Read the byte at `addr`, write back `g` of it; a ROM write is dropped (R85, R102). -/
def modifyMem (addr : Word) (g : Byte → Byte) (s : State) : State := memWrite s addr (g (memRead s addr))

/-- `MemWrite(addr, 1, v); r <- v` (R363): the register gets `v` on ROM too. -/
def storeCopy (addr : Word) (r : Reg8) (v : Byte) (s : State) : State :=
  let s1 := memWrite s addr v
  s1.withRegs (setR8 r v s1.regs)

/-! ### Repeating (R260) -/

/-- `ia`, the address of the instruction's 0xED byte, once both of its bytes are fetched (R11, R260). -/
def repeatAddr (s : State) : Word := s.regs.pc - 2

/-- F and the free-value counter after an iteration that repeats (R260, P7, log 4). -/
def repeatFlags (mask : Byte) (s : State) : State :=
  let s1 := putF (repeatF s.cfg.blockRepeatFlags mask s.regs.f s.freeIx) s
  match s.cfg.blockRepeatFlags with
  | .asFinal => s1
  | .anyValue => { s1 with freeIx := s1.freeIx + 1 }

/-- The end of an iteration of `LDIR`, `LDDR`, `CPIR` or `CPDR` (R260): 21 T-states, back to `ia`, `WZ <- ia + 1`; or
16 T-states and on. -/
def endMemRepeat (again : Bool) (s : State) : Host.Outcome State Fault Refusal :=
  if again then
    let ia := repeatAddr s
    endFlags 21 (setWZ (ia + 1) (jumpTo ia (repeatFlags memRepeatMask s)))
  else endFlags 16 s

/-- The end of an iteration of `INIR`, `INDR`, `OTIR` or `OTDR` (R260, R430): as `endMemRepeat`, but WZ is kept. -/
def endIoRepeat (again : Bool) (s : State) : Host.Outcome State Fault Refusal :=
  if again then endFlags 21 (jumpTo (repeatAddr s) (repeatFlags ioRepeatMask s))
  else endFlags 16 s

end Sys2Proof.Machine
end

