-- ==== Sys2Proof/Machine/Alu16.lean ====
section
/-! DEFINITION. 16-bit arithmetic (spec/44_alu16.md R330 to R337). -/

namespace Sys2Proof.Machine

/-- `ADD HL,ss` (R330). -/
def execAddHlSs (ss : RP) (s : State) : Host.Outcome State Fault Refusal :=
  let r := add16 s.regs.hl (getRP ss s.regs) s.regs.f
  endFlags 11 (putF r.2 (setWZ (s.regs.hl + 1) (s.withRegs (setHL r.1 s.regs))))

/-- `ADC HL,ss` (R331). -/
def execAdcHlSs (ss : RP) (s : State) : Host.Outcome State Fault Refusal :=
  let r := adc16 s.regs.hl (getRP ss s.regs) (flagC s.regs.f)
  endFlags 15 (putF r.2 (setWZ (s.regs.hl + 1) (s.withRegs (setHL r.1 s.regs))))

/-- `SBC HL,ss` (R332). -/
def execSbcHlSs (ss : RP) (s : State) : Host.Outcome State Fault Refusal :=
  let r := sbc16 s.regs.hl (getRP ss s.regs) (flagC s.regs.f)
  endFlags 15 (putF r.2 (setWZ (s.regs.hl + 1) (s.withRegs (setHL r.1 s.regs))))

/-- `ADD XY,pp` (R333). -/
def execAddXyPp (xy : XY) (pp : RPXY) (s : State) : Host.Outcome State Fault Refusal :=
  let x := getXY xy s.regs
  let r := add16 x (getRPXY xy pp s.regs) s.regs.f
  endFlags 15 (putF r.2 (setWZ (x + 1) (s.withRegs (setXY xy r.1 s.regs))))

/-- `INC ss` (R334). -/
def execIncSs (ss : RP) (s : State) : Host.Outcome State Fault Refusal :=
  endPlain 6 (s.withRegs (setRP ss (getRP ss s.regs + 1) s.regs))

/-- `INC XY` (R335). -/
def execIncXy (xy : XY) (s : State) : Host.Outcome State Fault Refusal :=
  endPlain 10 (s.withRegs (setXY xy (getXY xy s.regs + 1) s.regs))

/-- `DEC ss` (R336). -/
def execDecSs (ss : RP) (s : State) : Host.Outcome State Fault Refusal :=
  endPlain 6 (s.withRegs (setRP ss (getRP ss s.regs - 1) s.regs))

/-- `DEC XY` (R337). -/
def execDecXy (xy : XY) (s : State) : Host.Outcome State Fault Refusal :=
  endPlain 10 (s.withRegs (setXY xy (getXY xy s.regs - 1) s.regs))

end Sys2Proof.Machine
end

