-- ==== Sys2Proof/Machine/Alu8.lean ====
section
/-! DEFINITION. 8-bit arithmetic and logic (spec/43_alu8.md R280 to R302). -/

namespace Sys2Proof.Machine

/-- `ADD A,r` (R284). -/
def execAddAR (r : Reg8) (s : State) : Host.Outcome State Fault Refusal :=
  endFlags 4 (putAF (add8 s.regs.a (getR8 r s.regs) false) s)

/-- `ADD A,(HL)` (R284). -/
def execAddAMemHl (s : State) : Host.Outcome State Fault Refusal :=
  endFlags 7 (putAF (add8 s.regs.a (memRead s s.regs.hl) false) s)

/-- `ADD A,n` (R284). -/
def execAddAN (n : Byte) (s : State) : Host.Outcome State Fault Refusal :=
  endFlags 7 (putAF (add8 s.regs.a n false) s)

/-- `ADD A,XYh` (R284). -/
def execAddAXyh (xy : XY) (h : Half) (s : State) : Host.Outcome State Fault Refusal :=
  endFlags 8 (putAF (add8 s.regs.a (getHalf xy h s.regs) false) s)

/-- `ADD A,(XY+d)` (R284). -/
def execAddAMemXyd (xy : XY) (d : Byte) (s : State) : Host.Outcome State Fault Refusal :=
  let s1 := latchEA xy d s
  endFlags 19 (putAF (add8 s1.regs.a (memRead s1 s1.regs.wz) false) s1)

/-- `ADC A,r` (R285). -/
def execAdcAR (r : Reg8) (s : State) : Host.Outcome State Fault Refusal :=
  endFlags 4 (putAF (add8 s.regs.a (getR8 r s.regs) (flagC s.regs.f)) s)

/-- `ADC A,(HL)` (R285). -/
def execAdcAMemHl (s : State) : Host.Outcome State Fault Refusal :=
  endFlags 7 (putAF (add8 s.regs.a (memRead s s.regs.hl) (flagC s.regs.f)) s)

/-- `ADC A,n` (R285). -/
def execAdcAN (n : Byte) (s : State) : Host.Outcome State Fault Refusal :=
  endFlags 7 (putAF (add8 s.regs.a n (flagC s.regs.f)) s)

/-- `ADC A,XYh` (R285). -/
def execAdcAXyh (xy : XY) (h : Half) (s : State) : Host.Outcome State Fault Refusal :=
  endFlags 8 (putAF (add8 s.regs.a (getHalf xy h s.regs) (flagC s.regs.f)) s)

/-- `ADC A,(XY+d)` (R285). -/
def execAdcAMemXyd (xy : XY) (d : Byte) (s : State) : Host.Outcome State Fault Refusal :=
  let s1 := latchEA xy d s
  endFlags 19 (putAF (add8 s1.regs.a (memRead s1 s1.regs.wz) (flagC s1.regs.f)) s1)

/-- `SUB r` (R286). -/
def execSubR (r : Reg8) (s : State) : Host.Outcome State Fault Refusal :=
  endFlags 4 (putAF (sub8 s.regs.a (getR8 r s.regs) false) s)

/-- `SUB (HL)` (R286). -/
def execSubMemHl (s : State) : Host.Outcome State Fault Refusal :=
  endFlags 7 (putAF (sub8 s.regs.a (memRead s s.regs.hl) false) s)

/-- `SUB n` (R286). -/
def execSubN (n : Byte) (s : State) : Host.Outcome State Fault Refusal :=
  endFlags 7 (putAF (sub8 s.regs.a n false) s)

/-- `SUB XYh` (R286). -/
def execSubXyh (xy : XY) (h : Half) (s : State) : Host.Outcome State Fault Refusal :=
  endFlags 8 (putAF (sub8 s.regs.a (getHalf xy h s.regs) false) s)

/-- `SUB (XY+d)` (R286). -/
def execSubMemXyd (xy : XY) (d : Byte) (s : State) : Host.Outcome State Fault Refusal :=
  let s1 := latchEA xy d s
  endFlags 19 (putAF (sub8 s1.regs.a (memRead s1 s1.regs.wz) false) s1)

/-- `SBC A,r` (R287). -/
def execSbcAR (r : Reg8) (s : State) : Host.Outcome State Fault Refusal :=
  endFlags 4 (putAF (sub8 s.regs.a (getR8 r s.regs) (flagC s.regs.f)) s)

/-- `SBC A,(HL)` (R287). -/
def execSbcAMemHl (s : State) : Host.Outcome State Fault Refusal :=
  endFlags 7 (putAF (sub8 s.regs.a (memRead s s.regs.hl) (flagC s.regs.f)) s)

/-- `SBC A,n` (R287). -/
def execSbcAN (n : Byte) (s : State) : Host.Outcome State Fault Refusal :=
  endFlags 7 (putAF (sub8 s.regs.a n (flagC s.regs.f)) s)

/-- `SBC A,XYh` (R287). -/
def execSbcAXyh (xy : XY) (h : Half) (s : State) : Host.Outcome State Fault Refusal :=
  endFlags 8 (putAF (sub8 s.regs.a (getHalf xy h s.regs) (flagC s.regs.f)) s)

/-- `SBC A,(XY+d)` (R287). -/
def execSbcAMemXyd (xy : XY) (d : Byte) (s : State) : Host.Outcome State Fault Refusal :=
  let s1 := latchEA xy d s
  endFlags 19 (putAF (sub8 s1.regs.a (memRead s1 s1.regs.wz) (flagC s1.regs.f)) s1)

/-- `AND r` (R288). -/
def execAndR (r : Reg8) (s : State) : Host.Outcome State Fault Refusal :=
  endFlags 4 (putAF (and8 s.regs.a (getR8 r s.regs)) s)

/-- `AND (HL)` (R288). -/
def execAndMemHl (s : State) : Host.Outcome State Fault Refusal :=
  endFlags 7 (putAF (and8 s.regs.a (memRead s s.regs.hl)) s)

/-- `AND n` (R288). -/
def execAndN (n : Byte) (s : State) : Host.Outcome State Fault Refusal :=
  endFlags 7 (putAF (and8 s.regs.a n) s)

/-- `AND XYh` (R288). -/
def execAndXyh (xy : XY) (h : Half) (s : State) : Host.Outcome State Fault Refusal :=
  endFlags 8 (putAF (and8 s.regs.a (getHalf xy h s.regs)) s)

/-- `AND (XY+d)` (R288). -/
def execAndMemXyd (xy : XY) (d : Byte) (s : State) : Host.Outcome State Fault Refusal :=
  let s1 := latchEA xy d s
  endFlags 19 (putAF (and8 s1.regs.a (memRead s1 s1.regs.wz)) s1)

/-- `XOR r` (R289). -/
def execXorR (r : Reg8) (s : State) : Host.Outcome State Fault Refusal :=
  endFlags 4 (putAF (xor8 s.regs.a (getR8 r s.regs)) s)

/-- `XOR (HL)` (R289). -/
def execXorMemHl (s : State) : Host.Outcome State Fault Refusal :=
  endFlags 7 (putAF (xor8 s.regs.a (memRead s s.regs.hl)) s)

/-- `XOR n` (R289). -/
def execXorN (n : Byte) (s : State) : Host.Outcome State Fault Refusal :=
  endFlags 7 (putAF (xor8 s.regs.a n) s)

/-- `XOR XYh` (R289). -/
def execXorXyh (xy : XY) (h : Half) (s : State) : Host.Outcome State Fault Refusal :=
  endFlags 8 (putAF (xor8 s.regs.a (getHalf xy h s.regs)) s)

/-- `XOR (XY+d)` (R289). -/
def execXorMemXyd (xy : XY) (d : Byte) (s : State) : Host.Outcome State Fault Refusal :=
  let s1 := latchEA xy d s
  endFlags 19 (putAF (xor8 s1.regs.a (memRead s1 s1.regs.wz)) s1)

/-- `OR r` (R290). -/
def execOrR (r : Reg8) (s : State) : Host.Outcome State Fault Refusal :=
  endFlags 4 (putAF (or8 s.regs.a (getR8 r s.regs)) s)

/-- `OR (HL)` (R290). -/
def execOrMemHl (s : State) : Host.Outcome State Fault Refusal :=
  endFlags 7 (putAF (or8 s.regs.a (memRead s s.regs.hl)) s)

/-- `OR n` (R290). -/
def execOrN (n : Byte) (s : State) : Host.Outcome State Fault Refusal := endFlags 7 (putAF (or8 s.regs.a n) s)

/-- `OR XYh` (R290). -/
def execOrXyh (xy : XY) (h : Half) (s : State) : Host.Outcome State Fault Refusal :=
  endFlags 8 (putAF (or8 s.regs.a (getHalf xy h s.regs)) s)

/-- `OR (XY+d)` (R290). -/
def execOrMemXyd (xy : XY) (d : Byte) (s : State) : Host.Outcome State Fault Refusal :=
  let s1 := latchEA xy d s
  endFlags 19 (putAF (or8 s1.regs.a (memRead s1 s1.regs.wz)) s1)

/-- `CP r` (R291). -/
def execCpR (r : Reg8) (s : State) : Host.Outcome State Fault Refusal :=
  endFlags 4 (putF (cpF s.regs.a (getR8 r s.regs)) s)

/-- `CP (HL)` (R291). -/
def execCpMemHl (s : State) : Host.Outcome State Fault Refusal :=
  endFlags 7 (putF (cpF s.regs.a (memRead s s.regs.hl)) s)

/-- `CP n` (R291). -/
def execCpN (n : Byte) (s : State) : Host.Outcome State Fault Refusal := endFlags 7 (putF (cpF s.regs.a n) s)

/-- `CP XYh` (R291). -/
def execCpXyh (xy : XY) (h : Half) (s : State) : Host.Outcome State Fault Refusal :=
  endFlags 8 (putF (cpF s.regs.a (getHalf xy h s.regs)) s)

/-- `CP (XY+d)` (R291). -/
def execCpMemXyd (xy : XY) (d : Byte) (s : State) : Host.Outcome State Fault Refusal :=
  let s1 := latchEA xy d s
  endFlags 19 (putF (cpF s1.regs.a (memRead s1 s1.regs.wz)) s1)

/-- `INC r` (R292). -/
def execIncR (r : Reg8) (s : State) : Host.Outcome State Fault Refusal :=
  endFlags 4 (putR8 r (inc8 (getR8 r s.regs) s.regs.f) s)

/-- `INC (HL)` (R293). -/
def execIncMemHl (s : State) : Host.Outcome State Fault Refusal :=
  endFlags 11 (putMem s.regs.hl (inc8 (memRead s s.regs.hl) s.regs.f) s)

/-- `INC XYh` (R292). -/
def execIncXyh (xy : XY) (h : Half) (s : State) : Host.Outcome State Fault Refusal :=
  endFlags 8 (putHalf xy h (inc8 (getHalf xy h s.regs) s.regs.f) s)

/-- `INC (XY+d)` (R294). -/
def execIncMemXyd (xy : XY) (d : Byte) (s : State) : Host.Outcome State Fault Refusal :=
  let s1 := latchEA xy d s
  endFlags 23 (putMem s1.regs.wz (inc8 (memRead s1 s1.regs.wz) s1.regs.f) s1)

/-- `DEC r` (R295). -/
def execDecR (r : Reg8) (s : State) : Host.Outcome State Fault Refusal :=
  endFlags 4 (putR8 r (dec8 (getR8 r s.regs) s.regs.f) s)

/-- `DEC (HL)` (R296). -/
def execDecMemHl (s : State) : Host.Outcome State Fault Refusal :=
  endFlags 11 (putMem s.regs.hl (dec8 (memRead s s.regs.hl) s.regs.f) s)

/-- `DEC XYh` (R295). -/
def execDecXyh (xy : XY) (h : Half) (s : State) : Host.Outcome State Fault Refusal :=
  endFlags 8 (putHalf xy h (dec8 (getHalf xy h s.regs) s.regs.f) s)

/-- `DEC (XY+d)` (R297). -/
def execDecMemXyd (xy : XY) (d : Byte) (s : State) : Host.Outcome State Fault Refusal :=
  let s1 := latchEA xy d s
  endFlags 23 (putMem s1.regs.wz (dec8 (memRead s1 s1.regs.wz) s1.regs.f) s1)

/-- `DAA` (R298). -/
def execDaa (s : State) : Host.Outcome State Fault Refusal := endFlags 4 (putAF (daa8 s.regs.a s.regs.f) s)

/-- `CPL` (R299). -/
def execCpl (s : State) : Host.Outcome State Fault Refusal := endFlags 4 (putAF (cpl8 s.regs.a s.regs.f) s)

/-- `NEG` (R300). -/
def execNeg (s : State) : Host.Outcome State Fault Refusal := endFlags 8 (putAF (sub8 0 s.regs.a false) s)

/-- `NEG (mirror)` (R300): exactly as `NEG`. -/
def execNegMirror (_y : Fin 8) (s : State) : Host.Outcome State Fault Refusal :=
  endFlags 8 (putAF (sub8 0 s.regs.a false) s)

/-- `CCF` (R301): Q and F from before the instruction. -/
def execCcf (s : State) : Host.Outcome State Fault Refusal :=
  endFlags 4 (putF (ccfF s.ctl.q s.regs.f s.regs.a) s)

/-- `SCF` (R302): Q and F from before the instruction. -/
def execScf (s : State) : Host.Outcome State Fault Refusal :=
  endFlags 4 (putF (scfF s.ctl.q s.regs.f s.regs.a) s)

end Sys2Proof.Machine
end

