-- ==== Sys2Proof/Machine/Block.lean ====
section
/-! DEFINITION. Block transfer and block search (spec/42_block_transfer_search.md R260 to R268). -/

namespace Sys2Proof.Machine

/-- One iteration of `LDI` (step 1) or `LDD` (step -1) (R261, R263). -/
def moveBlock (step : Word) (s : State) : State :=
  let v := memRead s s.regs.hl
  let s1 := memWrite s s.regs.de v
  let g := s1.regs
  let bc := g.bc - 1
  s1.withRegs (setHL (g.hl + step) (setDE (g.de + step) (setBC bc { g with f := ldBlockF v g.a g.f bc })))

/-- One iteration of `CPI` (step 1) or `CPD` (step -1) (R265, R267). -/
def compareBlock (step : Word) (s : State) : State :=
  let v := memRead s s.regs.hl
  let g := s.regs
  let bc := g.bc - 1
  s.withRegs (setHL (g.hl + step) (setBC bc { g with f := cpBlockF g.a v g.f bc, wz := g.wz + step }))

/-- `LDI` (R261). -/
def execLdi (s : State) : Host.Outcome State Fault Refusal := endFlags 16 (moveBlock 1 s)

/-- `LDD` (R263). -/
def execLdd (s : State) : Host.Outcome State Fault Refusal := endFlags 16 (moveBlock (-1) s)

/-- `LDIR` (R262): one iteration. -/
def execLdir (s : State) : Host.Outcome State Fault Refusal :=
  let s1 := moveBlock 1 s
  endMemRepeat (s1.regs.bc != 0) s1

/-- `LDDR` (R264): one iteration. -/
def execLddr (s : State) : Host.Outcome State Fault Refusal :=
  let s1 := moveBlock (-1) s
  endMemRepeat (s1.regs.bc != 0) s1

/-- `CPI` (R265). -/
def execCpi (s : State) : Host.Outcome State Fault Refusal := endFlags 16 (compareBlock 1 s)

/-- `CPD` (R267). -/
def execCpd (s : State) : Host.Outcome State Fault Refusal := endFlags 16 (compareBlock (-1) s)

/-- `CPIR` (R266): one iteration; it repeats while BC is not 0 and the byte differs from A. -/
def execCpir (s : State) : Host.Outcome State Fault Refusal :=
  let s1 := compareBlock 1 s
  endMemRepeat (s1.regs.bc != 0 && !flagZ s1.regs.f) s1

/-- `CPDR` (R268): one iteration; it repeats while BC is not 0 and the byte differs from A. -/
def execCpdr (s : State) : Host.Outcome State Fault Refusal :=
  let s1 := compareBlock (-1) s
  endMemRepeat (s1.regs.bc != 0 && !flagZ s1.regs.f) s1

end Sys2Proof.Machine
end

