-- ==== Sys2Proof/Machine/Control.lean ====
section
/-! DEFINITION. Jumps, calls, returns and restarts (spec/46_control.md R390 to R403). -/

namespace Sys2Proof.Machine

/-- `JP nn` (R390). -/
def execJpNn (nn : Word) (s : State) : Host.Outcome State Fault Refusal := endPlain 10 (jumpLatched nn s)

/-- `JP cc,nn` (R391): WZ is written either way. -/
def execJpCcNn (cc : Cond) (nn : Word) (s : State) : Host.Outcome State Fault Refusal :=
  let s1 := setWZ nn s
  endPlain 10 (if condHolds cc s.regs.f then jumpTo nn s1 else s1)

/-- `JR e` (R392). -/
def execJr (e : Byte) (s : State) : Host.Outcome State Fault Refusal :=
  endPlain 12 (jumpLatched (relativeTarget e s.regs) s)

/-- `JR cc,e` (R393). -/
def execJrCc (cc : Cond4) (e : Byte) (s : State) : Host.Outcome State Fault Refusal :=
  if cond4Holds cc s.regs.f then endPlain 12 (jumpLatched (relativeTarget e s.regs) s) else endPlain 7 s

/-- `JP (HL)` (R394). -/
def execJpHl (s : State) : Host.Outcome State Fault Refusal := endPlain 4 (jumpTo s.regs.hl s)

/-- `JP (XY)` (R395). -/
def execJpXy (xy : XY) (s : State) : Host.Outcome State Fault Refusal :=
  endPlain 8 (jumpTo (getXY xy s.regs) s)

/-- `DJNZ e` (R396). -/
def execDjnz (e : Byte) (s : State) : Host.Outcome State Fault Refusal :=
  let s1 := s.withRegs { s.regs with b := s.regs.b - 1 }
  if s1.regs.b != 0 then endPlain 13 (jumpLatched (relativeTarget e s1.regs) s1) else endPlain 8 s1

/-- `CALL nn` (R397). -/
def execCallNn (nn : Word) (s : State) : Host.Outcome State Fault Refusal :=
  endPlain 17 (jumpLatched nn (push16 s.regs.pc s))

/-- `CALL cc,nn` (R398): WZ is written either way. -/
def execCallCcNn (cc : Cond) (nn : Word) (s : State) : Host.Outcome State Fault Refusal :=
  if condHolds cc s.regs.f then endPlain 17 (jumpLatched nn (push16 s.regs.pc s))
  else endPlain 10 (setWZ nn s)

/-- `RET` (R399). -/
def execRet (s : State) : Host.Outcome State Fault Refusal := endPlain 10 (popPC s)

/-- `RET cc` (R400). -/
def execRetCc (cc : Cond) (s : State) : Host.Outcome State Fault Refusal :=
  if condHolds cc s.regs.f then endPlain 11 (popPC s) else endPlain 5 s

/-- `RETI` (R401). -/
def execReti (s : State) : Host.Outcome State Fault Refusal := endPlain 14 (returnFromInterrupt s)

/-- `RETN` (R402). -/
def execRetn (s : State) : Host.Outcome State Fault Refusal := endPlain 14 (returnFromInterrupt s)

/-- `RETN (mirror)` (R402): exactly as `RETN`. -/
def execRetnMirror (_y : Fin 8) (s : State) : Host.Outcome State Fault Refusal :=
  endPlain 14 (returnFromInterrupt s)

/-- `RST p` (R403). -/
def execRst (p : Fin 8) (s : State) : Host.Outcome State Fault Refusal :=
  endPlain 11 (jumpLatched (BitVec.ofNat 16 (8 * p.val)) (push16 s.regs.pc s))

end Sys2Proof.Machine
end

