-- ==== Sys2Proof/Machine/CpuControl.lean ====
section
/-! DEFINITION. CPU control (spec/48_cpu_control.md R460 to R467). -/

namespace Sys2Proof.Machine

/-- `IM <- m` (R464 to R466). -/
def setIM (m : IntMode) (s : State) : State := { s with ctl := { s.ctl with im := m } }

/-- `NOP` (R460). -/
def execNop (s : State) : Host.Outcome State Fault Refusal := endPlain 4 s

/-- `HALT` (R461): PC stands past the `HALT` byte already. -/
def execHalt (s : State) : Host.Outcome State Fault Refusal :=
  endPlain 4 { s with ctl := { s.ctl with halted := true } }

/-- `DI` (R462). -/
def execDi (s : State) : Host.Outcome State Fault Refusal :=
  endPlain 4 { s with ctl := { s.ctl with iff1 := false, iff2 := false } }

/-- `EI` (R463). -/
def execEi (s : State) : Host.Outcome State Fault Refusal :=
  endPlain 4 { s with ctl := { s.ctl with iff1 := true, iff2 := true, eiBlock := true } }

/-- `IM 0` (R464). -/
def execIm0 (s : State) : Host.Outcome State Fault Refusal := endPlain 8 (setIM .im0 s)

/-- `IM 0 (mirror)` (R464): ED 4E. -/
def execIm0Mirror4E (s : State) : Host.Outcome State Fault Refusal := endPlain 8 (setIM .im0 s)

/-- `IM 0 (mirror)` (R464): ED 66. -/
def execIm0Mirror66 (s : State) : Host.Outcome State Fault Refusal := endPlain 8 (setIM .im0 s)

/-- `IM 0 (mirror)` (R464): ED 6E. -/
def execIm0Mirror6E (s : State) : Host.Outcome State Fault Refusal := endPlain 8 (setIM .im0 s)

/-- `IM 1` (R465). -/
def execIm1 (s : State) : Host.Outcome State Fault Refusal := endPlain 8 (setIM .im1 s)

/-- `IM 1 (mirror)` (R465): ED 76. -/
def execIm1Mirror (s : State) : Host.Outcome State Fault Refusal := endPlain 8 (setIM .im1 s)

/-- `IM 2` (R466). -/
def execIm2 (s : State) : Host.Outcome State Fault Refusal := endPlain 8 (setIM .im2 s)

/-- `IM 2 (mirror)` (R466): ED 7E. -/
def execIm2Mirror (s : State) : Host.Outcome State Fault Refusal := endPlain 8 (setIM .im2 s)

/-- `NOP (ED undefined)` (R467). -/
def execNopEd00 (_x : Fin 64) (s : State) : Host.Outcome State Fault Refusal := endPlain 8 s

/-- `NOP (ED undefined)` (R467). -/
def execNopEd77 (_x : Fin 2) (s : State) : Host.Outcome State Fault Refusal := endPlain 8 s

/-- `NOP (ED undefined)` (R467). -/
def execNopEd80 (_x : Fin 32) (s : State) : Host.Outcome State Fault Refusal := endPlain 8 s

/-- `NOP (ED undefined)` (R467). -/
def execNopEdA4 (_x4 : Fin 2) (_x10 : Fin 4) (s : State) : Host.Outcome State Fault Refusal := endPlain 8 s

/-- `NOP (ED undefined)` (R467). -/
def execNopEdAC (_x4 : Fin 2) (_x10 : Fin 4) (s : State) : Host.Outcome State Fault Refusal := endPlain 8 s

/-- `NOP (ED undefined)` (R467). -/
def execNopEdC0 (_x : Fin 64) (s : State) : Host.Outcome State Fault Refusal := endPlain 8 s

end Sys2Proof.Machine
end

