-- ==== Sys2Proof/Machine/Io.lean ====
section
/-! DEFINITION. Input and output (spec/47_io.md R430 to R444). Stamps are those of spec/20_memory.md R103. -/

namespace Sys2Proof.Machine

/-- One iteration of `INI` (step 1) or `IND` (step -1) (R434, R436): the port uses B before its decrement. -/
def inBlock (step : Word) (s : State) : State :=
  let port := portBC s.regs
  let r := ioRead port (s.clk.cycles + 9) s
  let v := r.1
  let s1 := memWrite r.2 r.2.regs.hl v
  let g := s1.regs
  let b := g.b - 1
  let k := v.toNat + (g.c + loByte step).toNat
  s1.withRegs { setHL (g.hl + step) g with b := b, wz := port + step, f := ioBlockF v k b }

/-- One iteration of `OUTI` (step 1) or `OUTD` (step -1) (R441, R443): the port uses B after its decrement, the sum uses
L after its step. -/
def outBlock (step : Word) (s : State) : State :=
  let s0 := s.withRegs { s.regs with b := s.regs.b - 1 }
  let v := memRead s0 s0.regs.hl
  let port := portBC s0.regs
  let s1 := ioWrite port v (s.clk.cycles + 12) s0
  let g := setHL (s1.regs.hl + step) s1.regs
  s1.withRegs { g with wz := port + step, f := ioBlockF v (v.toNat + g.l.toNat) g.b }

/-- `IN A,(n)` (R431). -/
def execInAN (n : Byte) (s : State) : Host.Outcome State Fault Refusal :=
  let port := portAN n s.regs
  let r := ioRead port (s.clk.cycles + 7) s
  endPlain 11 (r.2.withRegs { r.2.regs with a := r.1, wz := port + 1 })

/-- `IN r,(C)` (R432). -/
def execInRC (r : Reg8) (s : State) : Host.Outcome State Fault Refusal :=
  let port := portBC s.regs
  let v := ioRead port (s.clk.cycles + 8) s
  endFlags 12 (setWZ (port + 1) (putR8 r (v.1, inF v.1 s.regs.f) v.2))

/-- `IN F,(C)` (R433): no register receives the byte. -/
def execInFC (s : State) : Host.Outcome State Fault Refusal :=
  let port := portBC s.regs
  let v := ioRead port (s.clk.cycles + 8) s
  endFlags 12 (setWZ (port + 1) (putF (inF v.1 s.regs.f) v.2))

/-- `OUT (n),A` (R438). -/
def execOutNA (n : Byte) (s : State) : Host.Outcome State Fault Refusal :=
  let g := s.regs
  endPlain 11 (setWZ (joinBytes g.a (n + 1)) (ioWrite (portAN n g) g.a (s.clk.cycles + 7) s))

/-- `OUT (C),r` (R439). -/
def execOutCR (r : Reg8) (s : State) : Host.Outcome State Fault Refusal :=
  let port := portBC s.regs
  endPlain 12 (setWZ (port + 1) (ioWrite port (getR8 r s.regs) (s.clk.cycles + 8) s))

/-- `OUT (C),0` (R440). -/
def execOutC0 (s : State) : Host.Outcome State Fault Refusal :=
  let port := portBC s.regs
  endPlain 12 (setWZ (port + 1) (ioWrite port Config.outCZeroValue (s.clk.cycles + 8) s))

/-- `INI` (R434). -/
def execIni (s : State) : Host.Outcome State Fault Refusal := endFlags 16 (inBlock 1 s)

/-- `IND` (R436). -/
def execInd (s : State) : Host.Outcome State Fault Refusal := endFlags 16 (inBlock (-1) s)

/-- `INIR` (R435): one iteration. -/
def execInir (s : State) : Host.Outcome State Fault Refusal :=
  let s1 := inBlock 1 s
  endIoRepeat (s1.regs.b != 0) s1

/-- `INDR` (R437): one iteration. -/
def execIndr (s : State) : Host.Outcome State Fault Refusal :=
  let s1 := inBlock (-1) s
  endIoRepeat (s1.regs.b != 0) s1

/-- `OUTI` (R441). -/
def execOuti (s : State) : Host.Outcome State Fault Refusal := endFlags 16 (outBlock 1 s)

/-- `OUTD` (R443). -/
def execOutd (s : State) : Host.Outcome State Fault Refusal := endFlags 16 (outBlock (-1) s)

/-- `OTIR` (R442): one iteration. -/
def execOtir (s : State) : Host.Outcome State Fault Refusal :=
  let s1 := outBlock 1 s
  endIoRepeat (s1.regs.b != 0) s1

/-- `OTDR` (R444): one iteration. -/
def execOtdr (s : State) : Host.Outcome State Fault Refusal :=
  let s1 := outBlock (-1) s
  endIoRepeat (s1.regs.b != 0) s1

end Sys2Proof.Machine
end

