-- ==== Sys2Proof/Machine/Load16.lean ====
section
/-! DEFINITION. 16-bit loads, the stack and the exchanges (spec/41_load16_exchange.md R230 to R248). -/

namespace Sys2Proof.Machine

/-- `LD dd,nn` (R230). -/
def execLdDdNn (dd : RP) (nn : Word) (s : State) : Host.Outcome State Fault Refusal :=
  endPlain 10 (s.withRegs (setRP dd nn s.regs))

/-- `LD XY,nn` (R231). -/
def execLdXyNn (xy : XY) (nn : Word) (s : State) : Host.Outcome State Fault Refusal :=
  endPlain 14 (s.withRegs (setXY xy nn s.regs))

/-- `LD HL,(nn)` (R232). -/
def execLdHlMemNn (nn : Word) (s : State) : Host.Outcome State Fault Refusal :=
  endPlain 16 (setWZ (nn + 1) (s.withRegs (setHL (memRead16 s nn) s.regs)))

/-- `LD XY,(nn)` (R233). -/
def execLdXyMemNn (xy : XY) (nn : Word) (s : State) : Host.Outcome State Fault Refusal :=
  endPlain 20 (setWZ (nn + 1) (s.withRegs (setXY xy (memRead16 s nn) s.regs)))

/-- `LD dd,(nn)` (R234). -/
def execLdDdMemNn (dd : RP) (nn : Word) (s : State) : Host.Outcome State Fault Refusal :=
  endPlain 20 (setWZ (nn + 1) (s.withRegs (setRP dd (memRead16 s nn) s.regs)))

/-- `LD (nn),HL` (R235). -/
def execLdMemNnHl (nn : Word) (s : State) : Host.Outcome State Fault Refusal :=
  endPlain 16 (setWZ (nn + 1) (memWrite16 s nn s.regs.hl))

/-- `LD (nn),XY` (R236). -/
def execLdMemNnXy (nn : Word) (xy : XY) (s : State) : Host.Outcome State Fault Refusal :=
  endPlain 20 (setWZ (nn + 1) (memWrite16 s nn (getXY xy s.regs)))

/-- `LD (nn),dd` (R237). -/
def execLdMemNnDd (nn : Word) (dd : RP) (s : State) : Host.Outcome State Fault Refusal :=
  endPlain 20 (setWZ (nn + 1) (memWrite16 s nn (getRP dd s.regs)))

/-- `LD SP,HL` (R238). -/
def execLdSpHl (s : State) : Host.Outcome State Fault Refusal :=
  endPlain 6 (s.withRegs { s.regs with sp := s.regs.hl })

/-- `LD SP,XY` (R239). -/
def execLdSpXy (xy : XY) (s : State) : Host.Outcome State Fault Refusal :=
  endPlain 10 (s.withRegs { s.regs with sp := getXY xy s.regs })

/-- `PUSH qq` (R240). -/
def execPushQq (qq : RP2) (s : State) : Host.Outcome State Fault Refusal :=
  endPlain 11 (push16 (getRP2 qq s.regs) s)

/-- `PUSH XY` (R241). -/
def execPushXy (xy : XY) (s : State) : Host.Outcome State Fault Refusal :=
  endPlain 15 (push16 (getXY xy s.regs) s)

/-- `POP qq` (R242): `POP AF` replaces F, and Q becomes 0 all the same. -/
def execPopQq (qq : RP2) (s : State) : Host.Outcome State Fault Refusal :=
  endPlain 10 (s.withRegs (setRP2 qq (popValue s) (popSP s.regs)))

/-- `POP XY` (R243). -/
def execPopXy (xy : XY) (s : State) : Host.Outcome State Fault Refusal :=
  endPlain 14 (s.withRegs (setXY xy (popValue s) (popSP s.regs)))

/-- `EX DE,HL` (R244). -/
def execExDeHl (s : State) : Host.Outcome State Fault Refusal :=
  endPlain 4 (s.withRegs { s.regs with d := s.regs.h, e := s.regs.l, h := s.regs.d, l := s.regs.e })

/-- `EX AF,AF'` (R245): Q becomes 0. -/
def execExAfAf (s : State) : Host.Outcome State Fault Refusal :=
  endPlain 4 (s.withRegs (setAF s.regs.afAlt { s.regs with afAlt := s.regs.af }))

/-- `EXX` (R246). -/
def execExx (s : State) : Host.Outcome State Fault Refusal :=
  let g := s.regs
  let g1 := { g with bcAlt := g.bc, deAlt := g.de, hlAlt := g.hl }
  endPlain 4 (s.withRegs (setBC g.bcAlt (setDE g.deAlt (setHL g.hlAlt g1))))

/-- `EX (SP),HL` (R247). -/
def execExSpHl (s : State) : Host.Outcome State Fault Refusal :=
  let v := memRead16 s s.regs.sp
  let s1 := memWrite16 s s.regs.sp s.regs.hl
  endPlain 19 (setWZ v (s1.withRegs (setHL v s1.regs)))

/-- `EX (SP),XY` (R248). -/
def execExSpXy (xy : XY) (s : State) : Host.Outcome State Fault Refusal :=
  let v := memRead16 s s.regs.sp
  let s1 := memWrite16 s s.regs.sp (getXY xy s.regs)
  endPlain 23 (setWZ v (s1.withRegs (setXY xy v s1.regs)))

end Sys2Proof.Machine
end

