-- ==== Sys2Proof/Machine/Load8.lean ====
section
/-! DEFINITION. The 8-bit loads (spec/40_load8.md R200 to R221). `s` is the state after the instruction's bytes have
been fetched. -/

namespace Sys2Proof.Machine

/-- `LD r,r'` (R200). -/
def execLdRR (r : Reg8) (src : Reg8) (s : State) : Host.Outcome State Fault Refusal :=
  endPlain 4 (s.withRegs (setR8 r (getR8 src s.regs) s.regs))

/-- `LD r,n` (R201). -/
def execLdRN (r : Reg8) (n : Byte) (s : State) : Host.Outcome State Fault Refusal :=
  endPlain 7 (s.withRegs (setR8 r n s.regs))

/-- `LD r,(HL)` (R202). -/
def execLdRMemHl (r : Reg8) (s : State) : Host.Outcome State Fault Refusal :=
  endPlain 7 (s.withRegs (setR8 r (memRead s s.regs.hl) s.regs))

/-- `LD r,(XY+d)` (R203): H and L are the real H and L. -/
def execLdRMemXyd (r : Reg8) (xy : XY) (d : Byte) (s : State) : Host.Outcome State Fault Refusal :=
  let s1 := latchEA xy d s
  endPlain 19 (s1.withRegs (setR8 r (memRead s1 s1.regs.wz) s1.regs))

/-- `LD (HL),r` (R204). -/
def execLdMemHlR (r : Reg8) (s : State) : Host.Outcome State Fault Refusal :=
  endPlain 7 (memWrite s s.regs.hl (getR8 r s.regs))

/-- `LD (XY+d),r` (R205). -/
def execLdMemXydR (xy : XY) (d : Byte) (r : Reg8) (s : State) : Host.Outcome State Fault Refusal :=
  let s1 := latchEA xy d s
  endPlain 19 (memWrite s1 s1.regs.wz (getR8 r s1.regs))

/-- `LD (HL),n` (R206). -/
def execLdMemHlN (n : Byte) (s : State) : Host.Outcome State Fault Refusal :=
  endPlain 10 (memWrite s s.regs.hl n)

/-- `LD (XY+d),n` (R207). -/
def execLdMemXydN (xy : XY) (d : Byte) (n : Byte) (s : State) : Host.Outcome State Fault Refusal :=
  let s1 := latchEA xy d s
  endPlain 19 (memWrite s1 s1.regs.wz n)

/-- `LD A,(BC)` (R208). -/
def execLdAMemBc (s : State) : Host.Outcome State Fault Refusal :=
  endPlain 7 (s.withRegs { s.regs with a := memRead s s.regs.bc, wz := s.regs.bc + 1 })

/-- `LD A,(DE)` (R209). -/
def execLdAMemDe (s : State) : Host.Outcome State Fault Refusal :=
  endPlain 7 (s.withRegs { s.regs with a := memRead s s.regs.de, wz := s.regs.de + 1 })

/-- `LD A,(nn)` (R210). -/
def execLdAMemNn (nn : Word) (s : State) : Host.Outcome State Fault Refusal :=
  endPlain 13 (s.withRegs { s.regs with a := memRead s nn, wz := nn + 1 })

/-- `LD (BC),A` (R211): WZ's low byte wraps on its own. -/
def execLdMemBcA (s : State) : Host.Outcome State Fault Refusal :=
  endPlain 7 (setWZ (joinBytes s.regs.a (s.regs.c + 1)) (memWrite s s.regs.bc s.regs.a))

/-- `LD (DE),A` (R212). -/
def execLdMemDeA (s : State) : Host.Outcome State Fault Refusal :=
  endPlain 7 (setWZ (joinBytes s.regs.a (s.regs.e + 1)) (memWrite s s.regs.de s.regs.a))

/-- `LD (nn),A` (R213). -/
def execLdMemNnA (nn : Word) (s : State) : Host.Outcome State Fault Refusal :=
  endPlain 13 (setWZ (joinBytes s.regs.a (loByte nn + 1)) (memWrite s nn s.regs.a))

/-- `LD A,I` (R214): `ldair <- 1` (R60). -/
def execLdAI (s : State) : Host.Outcome State Fault Refusal :=
  let s1 := putAF (s.regs.i, ldAirF s.regs.i s.regs.f s.ctl.iff2) s
  endFlags 9 { s1 with ctl := { s1.ctl with ldair := true } }

/-- `LD A,R` (R215): R after both M1 increments; `ldair <- 1` (R60). -/
def execLdAR (s : State) : Host.Outcome State Fault Refusal :=
  let s1 := putAF (s.regs.r, ldAirF s.regs.r s.regs.f s.ctl.iff2) s
  endFlags 9 { s1 with ctl := { s1.ctl with ldair := true } }

/-- `LD I,A` (R216). -/
def execLdIA (s : State) : Host.Outcome State Fault Refusal :=
  endPlain 9 (s.withRegs { s.regs with i := s.regs.a })

/-- `LD R,A` (R217): all 8 bits. -/
def execLdRA (s : State) : Host.Outcome State Fault Refusal :=
  endPlain 9 (s.withRegs { s.regs with r := s.regs.a })

/-- `LD r,XYh` (R218). -/
def execLdRXyh (r : Reg8) (xy : XY) (h : Half) (s : State) : Host.Outcome State Fault Refusal :=
  endPlain 8 (s.withRegs (setR8 r (getHalf xy h s.regs) s.regs))

/-- `LD XYh,r` (R219). -/
def execLdXyhR (xy : XY) (h : Half) (r : Reg8) (s : State) : Host.Outcome State Fault Refusal :=
  endPlain 8 (s.withRegs (setHalf xy h (getR8 r s.regs) s.regs))

/-- `LD XYh,XYg` (R220). -/
def execLdXyhXyg (xy : XY) (h : Half) (g : Half) (s : State) : Host.Outcome State Fault Refusal :=
  endPlain 8 (s.withRegs (setHalf xy h (getHalf xy g s.regs) s.regs))

/-- `LD XYh,n` (R221). -/
def execLdXyhN (xy : XY) (h : Half) (n : Byte) (s : State) : Host.Outcome State Fault Refusal :=
  endPlain 11 (s.withRegs (setHalf xy h n s.regs))

end Sys2Proof.Machine
end

