-- ==== Sys2Proof/Machine/RotBit.lean ====
section
/-! DEFINITION. Rotates, shifts and bits (spec/45_rotate_bit.md R350 to R370). -/

namespace Sys2Proof.Machine

/-- `v | (1 << b)` (R369). -/
def setBit (bn : Fin 8) (v : Byte) : Byte := v ||| bitMask bn

/-- `v & ~(1 << b)` (R370). -/
def resetBit (bn : Fin 8) (v : Byte) : Byte := v &&& ~~~bitMask bn

/-- `RLCA` (R350). -/
def execRlca (s : State) : Host.Outcome State Fault Refusal :=
  endFlags 4 (putAF (rotAF .rlc s.regs.a s.regs.f) s)

/-- `RLA` (R351). -/
def execRla (s : State) : Host.Outcome State Fault Refusal :=
  endFlags 4 (putAF (rotAF .rl s.regs.a s.regs.f) s)

/-- `RRCA` (R352). -/
def execRrca (s : State) : Host.Outcome State Fault Refusal :=
  endFlags 4 (putAF (rotAF .rrc s.regs.a s.regs.f) s)

/-- `RRA` (R353). -/
def execRra (s : State) : Host.Outcome State Fault Refusal :=
  endFlags 4 (putAF (rotAF .rr s.regs.a s.regs.f) s)

/-- `RLC r` (R355). -/
def execRlcR (r : Reg8) (s : State) : Host.Outcome State Fault Refusal :=
  endFlags 8 (putR8 r (rotF .rlc (getR8 r s.regs) s.regs.f) s)

/-- `RLC (HL)` (R355). -/
def execRlcMemHl (s : State) : Host.Outcome State Fault Refusal :=
  endFlags 15 (putMem s.regs.hl (rotF .rlc (memRead s s.regs.hl) s.regs.f) s)

/-- `RLC (XY+d)` (R355). -/
def execRlcMemXyd (xy : XY) (d : Byte) (s : State) : Host.Outcome State Fault Refusal :=
  let s1 := latchEA xy d s
  endFlags 23 (putMem s1.regs.wz (rotF .rlc (memRead s1 s1.regs.wz) s1.regs.f) s1)

/-- `RLC (XY+d),r` (R363). -/
def execRlcMemXydR (xy : XY) (d : Byte) (r : Reg8) (s : State) : Host.Outcome State Fault Refusal :=
  let s1 := latchEA xy d s
  let res := rotF .rlc (memRead s1 s1.regs.wz) s1.regs.f
  endFlags 23 (putF res.2 (storeCopy s1.regs.wz r res.1 s1))

/-- `RRC r` (R356). -/
def execRrcR (r : Reg8) (s : State) : Host.Outcome State Fault Refusal :=
  endFlags 8 (putR8 r (rotF .rrc (getR8 r s.regs) s.regs.f) s)

/-- `RRC (HL)` (R356). -/
def execRrcMemHl (s : State) : Host.Outcome State Fault Refusal :=
  endFlags 15 (putMem s.regs.hl (rotF .rrc (memRead s s.regs.hl) s.regs.f) s)

/-- `RRC (XY+d)` (R356). -/
def execRrcMemXyd (xy : XY) (d : Byte) (s : State) : Host.Outcome State Fault Refusal :=
  let s1 := latchEA xy d s
  endFlags 23 (putMem s1.regs.wz (rotF .rrc (memRead s1 s1.regs.wz) s1.regs.f) s1)

/-- `RRC (XY+d),r` (R363). -/
def execRrcMemXydR (xy : XY) (d : Byte) (r : Reg8) (s : State) : Host.Outcome State Fault Refusal :=
  let s1 := latchEA xy d s
  let res := rotF .rrc (memRead s1 s1.regs.wz) s1.regs.f
  endFlags 23 (putF res.2 (storeCopy s1.regs.wz r res.1 s1))

/-- `RL r` (R357). -/
def execRlR (r : Reg8) (s : State) : Host.Outcome State Fault Refusal :=
  endFlags 8 (putR8 r (rotF .rl (getR8 r s.regs) s.regs.f) s)

/-- `RL (HL)` (R357). -/
def execRlMemHl (s : State) : Host.Outcome State Fault Refusal :=
  endFlags 15 (putMem s.regs.hl (rotF .rl (memRead s s.regs.hl) s.regs.f) s)

/-- `RL (XY+d)` (R357). -/
def execRlMemXyd (xy : XY) (d : Byte) (s : State) : Host.Outcome State Fault Refusal :=
  let s1 := latchEA xy d s
  endFlags 23 (putMem s1.regs.wz (rotF .rl (memRead s1 s1.regs.wz) s1.regs.f) s1)

/-- `RL (XY+d),r` (R363). -/
def execRlMemXydR (xy : XY) (d : Byte) (r : Reg8) (s : State) : Host.Outcome State Fault Refusal :=
  let s1 := latchEA xy d s
  let res := rotF .rl (memRead s1 s1.regs.wz) s1.regs.f
  endFlags 23 (putF res.2 (storeCopy s1.regs.wz r res.1 s1))

/-- `RR r` (R358). -/
def execRrR (r : Reg8) (s : State) : Host.Outcome State Fault Refusal :=
  endFlags 8 (putR8 r (rotF .rr (getR8 r s.regs) s.regs.f) s)

/-- `RR (HL)` (R358). -/
def execRrMemHl (s : State) : Host.Outcome State Fault Refusal :=
  endFlags 15 (putMem s.regs.hl (rotF .rr (memRead s s.regs.hl) s.regs.f) s)

/-- `RR (XY+d)` (R358). -/
def execRrMemXyd (xy : XY) (d : Byte) (s : State) : Host.Outcome State Fault Refusal :=
  let s1 := latchEA xy d s
  endFlags 23 (putMem s1.regs.wz (rotF .rr (memRead s1 s1.regs.wz) s1.regs.f) s1)

/-- `RR (XY+d),r` (R363). -/
def execRrMemXydR (xy : XY) (d : Byte) (r : Reg8) (s : State) : Host.Outcome State Fault Refusal :=
  let s1 := latchEA xy d s
  let res := rotF .rr (memRead s1 s1.regs.wz) s1.regs.f
  endFlags 23 (putF res.2 (storeCopy s1.regs.wz r res.1 s1))

/-- `SLA r` (R359). -/
def execSlaR (r : Reg8) (s : State) : Host.Outcome State Fault Refusal :=
  endFlags 8 (putR8 r (rotF .sla (getR8 r s.regs) s.regs.f) s)

/-- `SLA (HL)` (R359). -/
def execSlaMemHl (s : State) : Host.Outcome State Fault Refusal :=
  endFlags 15 (putMem s.regs.hl (rotF .sla (memRead s s.regs.hl) s.regs.f) s)

/-- `SLA (XY+d)` (R359). -/
def execSlaMemXyd (xy : XY) (d : Byte) (s : State) : Host.Outcome State Fault Refusal :=
  let s1 := latchEA xy d s
  endFlags 23 (putMem s1.regs.wz (rotF .sla (memRead s1 s1.regs.wz) s1.regs.f) s1)

/-- `SLA (XY+d),r` (R363). -/
def execSlaMemXydR (xy : XY) (d : Byte) (r : Reg8) (s : State) : Host.Outcome State Fault Refusal :=
  let s1 := latchEA xy d s
  let res := rotF .sla (memRead s1 s1.regs.wz) s1.regs.f
  endFlags 23 (putF res.2 (storeCopy s1.regs.wz r res.1 s1))

/-- `SRA r` (R360). -/
def execSraR (r : Reg8) (s : State) : Host.Outcome State Fault Refusal :=
  endFlags 8 (putR8 r (rotF .sra (getR8 r s.regs) s.regs.f) s)

/-- `SRA (HL)` (R360). -/
def execSraMemHl (s : State) : Host.Outcome State Fault Refusal :=
  endFlags 15 (putMem s.regs.hl (rotF .sra (memRead s s.regs.hl) s.regs.f) s)

/-- `SRA (XY+d)` (R360). -/
def execSraMemXyd (xy : XY) (d : Byte) (s : State) : Host.Outcome State Fault Refusal :=
  let s1 := latchEA xy d s
  endFlags 23 (putMem s1.regs.wz (rotF .sra (memRead s1 s1.regs.wz) s1.regs.f) s1)

/-- `SRA (XY+d),r` (R363). -/
def execSraMemXydR (xy : XY) (d : Byte) (r : Reg8) (s : State) : Host.Outcome State Fault Refusal :=
  let s1 := latchEA xy d s
  let res := rotF .sra (memRead s1 s1.regs.wz) s1.regs.f
  endFlags 23 (putF res.2 (storeCopy s1.regs.wz r res.1 s1))

/-- `SLL r` (R361). -/
def execSllR (r : Reg8) (s : State) : Host.Outcome State Fault Refusal :=
  endFlags 8 (putR8 r (rotF .sll (getR8 r s.regs) s.regs.f) s)

/-- `SLL (HL)` (R361). -/
def execSllMemHl (s : State) : Host.Outcome State Fault Refusal :=
  endFlags 15 (putMem s.regs.hl (rotF .sll (memRead s s.regs.hl) s.regs.f) s)

/-- `SLL (XY+d)` (R361). -/
def execSllMemXyd (xy : XY) (d : Byte) (s : State) : Host.Outcome State Fault Refusal :=
  let s1 := latchEA xy d s
  endFlags 23 (putMem s1.regs.wz (rotF .sll (memRead s1 s1.regs.wz) s1.regs.f) s1)

/-- `SLL (XY+d),r` (R363). -/
def execSllMemXydR (xy : XY) (d : Byte) (r : Reg8) (s : State) : Host.Outcome State Fault Refusal :=
  let s1 := latchEA xy d s
  let res := rotF .sll (memRead s1 s1.regs.wz) s1.regs.f
  endFlags 23 (putF res.2 (storeCopy s1.regs.wz r res.1 s1))

/-- `SRL r` (R362). -/
def execSrlR (r : Reg8) (s : State) : Host.Outcome State Fault Refusal :=
  endFlags 8 (putR8 r (rotF .srl (getR8 r s.regs) s.regs.f) s)

/-- `SRL (HL)` (R362). -/
def execSrlMemHl (s : State) : Host.Outcome State Fault Refusal :=
  endFlags 15 (putMem s.regs.hl (rotF .srl (memRead s s.regs.hl) s.regs.f) s)

/-- `SRL (XY+d)` (R362). -/
def execSrlMemXyd (xy : XY) (d : Byte) (s : State) : Host.Outcome State Fault Refusal :=
  let s1 := latchEA xy d s
  endFlags 23 (putMem s1.regs.wz (rotF .srl (memRead s1 s1.regs.wz) s1.regs.f) s1)

/-- `SRL (XY+d),r` (R363). -/
def execSrlMemXydR (xy : XY) (d : Byte) (r : Reg8) (s : State) : Host.Outcome State Fault Refusal :=
  let s1 := latchEA xy d s
  let res := rotF .srl (memRead s1 s1.regs.wz) s1.regs.f
  endFlags 23 (putF res.2 (storeCopy s1.regs.wz r res.1 s1))

/-- `RLD` (R364). -/
def execRld (s : State) : Host.Outcome State Fault Refusal :=
  let res := rld8 s.regs.a (memRead s s.regs.hl)
  let s1 := putAF (res.2, inF res.2 s.regs.f) (memWrite s s.regs.hl res.1)
  endFlags 18 (setWZ (s.regs.hl + 1) s1)

/-- `RRD` (R365). -/
def execRrd (s : State) : Host.Outcome State Fault Refusal :=
  let res := rrd8 s.regs.a (memRead s s.regs.hl)
  let s1 := putAF (res.2, inF res.2 s.regs.f) (memWrite s s.regs.hl res.1)
  endFlags 18 (setWZ (s.regs.hl + 1) s1)

/-- `BIT b,r` (R366). -/
def execBitBR (bn : Fin 8) (r : Reg8) (s : State) : Host.Outcome State Fault Refusal :=
  let v := getR8 r s.regs
  endFlags 8 (putF (bitF bn v v s.regs.f) s)

/-- `BIT b,(HL)` (R367): Y and X from WZ. -/
def execBitBMemHl (bn : Fin 8) (s : State) : Host.Outcome State Fault Refusal :=
  endFlags 12 (putF (bitF bn (memRead s s.regs.hl) (hiByte s.regs.wz) s.regs.f) s)

/-- `BIT b,(XY+d)` (R368): Y and X from the effective address. -/
def execBitBMemXyd (bn : Fin 8) (xy : XY) (d : Byte) (s : State) : Host.Outcome State Fault Refusal :=
  let s1 := latchEA xy d s
  endFlags 20 (putF (bitF bn (memRead s1 s1.regs.wz) (hiByte s1.regs.wz) s1.regs.f) s1)

/-- `BIT b,(XY+d) (mirror)` (R368): exactly as `BIT b,(XY+d)`; no register is written. -/
def execBitBMemXydMirror (bn : Fin 8) (xy : XY) (d : Byte) (_r : Reg8) (s : State) : Host.Outcome State Fault Refusal :=
  let s1 := latchEA xy d s
  endFlags 20 (putF (bitF bn (memRead s1 s1.regs.wz) (hiByte s1.regs.wz) s1.regs.f) s1)

/-- `SET b,r` (R369). -/
def execSetBR (bn : Fin 8) (r : Reg8) (s : State) : Host.Outcome State Fault Refusal :=
  endPlain 8 (s.withRegs (setR8 r (setBit bn (getR8 r s.regs)) s.regs))

/-- `SET b,(HL)` (R369). -/
def execSetBMemHl (bn : Fin 8) (s : State) : Host.Outcome State Fault Refusal :=
  endPlain 15 (modifyMem s.regs.hl (setBit bn) s)

/-- `SET b,(XY+d)` (R369). -/
def execSetBMemXyd (bn : Fin 8) (xy : XY) (d : Byte) (s : State) : Host.Outcome State Fault Refusal :=
  let s1 := latchEA xy d s
  endPlain 23 (modifyMem s1.regs.wz (setBit bn) s1)

/-- `SET b,(XY+d),r` (R363). -/
def execSetBMemXydR (bn : Fin 8) (xy : XY) (d : Byte) (r : Reg8) (s : State) : Host.Outcome State Fault Refusal :=
  let s1 := latchEA xy d s
  endPlain 23 (storeCopy s1.regs.wz r (setBit bn (memRead s1 s1.regs.wz)) s1)

/-- `RES b,r` (R370). -/
def execResBR (bn : Fin 8) (r : Reg8) (s : State) : Host.Outcome State Fault Refusal :=
  endPlain 8 (s.withRegs (setR8 r (resetBit bn (getR8 r s.regs)) s.regs))

/-- `RES b,(HL)` (R370). -/
def execResBMemHl (bn : Fin 8) (s : State) : Host.Outcome State Fault Refusal :=
  endPlain 15 (modifyMem s.regs.hl (resetBit bn) s)

/-- `RES b,(XY+d)` (R370). -/
def execResBMemXyd (bn : Fin 8) (xy : XY) (d : Byte) (s : State) : Host.Outcome State Fault Refusal :=
  let s1 := latchEA xy d s
  endPlain 23 (modifyMem s1.regs.wz (resetBit bn) s1)

/-- `RES b,(XY+d),r` (R363). -/
def execResBMemXydR (bn : Fin 8) (xy : XY) (d : Byte) (r : Reg8) (s : State) : Host.Outcome State Fault Refusal :=
  let s1 := latchEA xy d s
  endPlain 23 (storeCopy s1.regs.wz r (resetBit bn (memRead s1 s1.regs.wz)) s1)

end Sys2Proof.Machine
end

