-- ==== Sys2Proof/Machine/Prefix.lean ====
section
/-! DEFINITION. The rows of the opcode table that are prefix bytes (spec/30_encoding.md R137, R135,
spec/48_cpu_control.md R468): what a step still does once its prefix byte has been fetched. -/

namespace Sys2Proof.Machine

/-- The meaning of the instruction that follows a prefix byte. The six prefix rows do not follow one there (their arms
are never reached: `decodeBytes` gives none of them but the ignored index prefix, which `execAfterPrefix` handles). -/
def execDecoded (i : Instr) (s : State) : Host.Outcome State Fault Refusal :=
  match i with
  | .nop => execNop s
  | .exAfAf => execExAfAf s
  | .djnz e => execDjnz e s
  | .jr e => execJr e s
  | .jrCc cc e => execJrCc cc e s
  | .ldDdNn dd nn => execLdDdNn dd nn s
  | .addHlSs ss => execAddHlSs ss s
  | .ldMemBcA => execLdMemBcA s
  | .ldMemDeA => execLdMemDeA s
  | .ldMemNnHl nn => execLdMemNnHl nn s
  | .ldMemNnA nn => execLdMemNnA nn s
  | .ldAMemBc => execLdAMemBc s
  | .ldAMemDe => execLdAMemDe s
  | .ldHlMemNn nn => execLdHlMemNn nn s
  | .ldAMemNn nn => execLdAMemNn nn s
  | .incSs ss => execIncSs ss s
  | .decSs ss => execDecSs ss s
  | .incR r => execIncR r s
  | .incMemHl => execIncMemHl s
  | .decR r => execDecR r s
  | .decMemHl => execDecMemHl s
  | .ldRN r n => execLdRN r n s
  | .ldMemHlN n => execLdMemHlN n s
  | .rlca => execRlca s
  | .rrca => execRrca s
  | .rla => execRla s
  | .rra => execRra s
  | .daa => execDaa s
  | .cpl => execCpl s
  | .scf => execScf s
  | .ccf => execCcf s
  | .ldRR r src => execLdRR r src s
  | .ldRMemHl r => execLdRMemHl r s
  | .ldMemHlR r => execLdMemHlR r s
  | .halt => execHalt s
  | .addAR r => execAddAR r s
  | .addAMemHl => execAddAMemHl s
  | .adcAR r => execAdcAR r s
  | .adcAMemHl => execAdcAMemHl s
  | .subR r => execSubR r s
  | .subMemHl => execSubMemHl s
  | .sbcAR r => execSbcAR r s
  | .sbcAMemHl => execSbcAMemHl s
  | .andR r => execAndR r s
  | .andMemHl => execAndMemHl s
  | .xorR r => execXorR r s
  | .xorMemHl => execXorMemHl s
  | .orR r => execOrR r s
  | .orMemHl => execOrMemHl s
  | .cpR r => execCpR r s
  | .cpMemHl => execCpMemHl s
  | .retCc cc => execRetCc cc s
  | .popQq qq => execPopQq qq s
  | .ret => execRet s
  | .exx => execExx s
  | .jpHl => execJpHl s
  | .ldSpHl => execLdSpHl s
  | .jpCcNn cc nn => execJpCcNn cc nn s
  | .jpNn nn => execJpNn nn s
  | .outNA n => execOutNA n s
  | .inAN n => execInAN n s
  | .exSpHl => execExSpHl s
  | .exDeHl => execExDeHl s
  | .di => execDi s
  | .ei => execEi s
  | .callCcNn cc nn => execCallCcNn cc nn s
  | .pushQq qq => execPushQq qq s
  | .callNn nn => execCallNn nn s
  | .addAN n => execAddAN n s
  | .adcAN n => execAdcAN n s
  | .subN n => execSubN n s
  | .sbcAN n => execSbcAN n s
  | .andN n => execAndN n s
  | .xorN n => execXorN n s
  | .orN n => execOrN n s
  | .cpN n => execCpN n s
  | .rst p => execRst p s
  | .prefixCb => .next s
  | .prefixEd => .next s
  | .prefixDd => .next s
  | .prefixFd => .next s
  | .rlcR r => execRlcR r s
  | .rlcMemHl => execRlcMemHl s
  | .rrcR r => execRrcR r s
  | .rrcMemHl => execRrcMemHl s
  | .rlR r => execRlR r s
  | .rlMemHl => execRlMemHl s
  | .rrR r => execRrR r s
  | .rrMemHl => execRrMemHl s
  | .slaR r => execSlaR r s
  | .slaMemHl => execSlaMemHl s
  | .sraR r => execSraR r s
  | .sraMemHl => execSraMemHl s
  | .sllR r => execSllR r s
  | .sllMemHl => execSllMemHl s
  | .srlR r => execSrlR r s
  | .srlMemHl => execSrlMemHl s
  | .bitBR bn r => execBitBR bn r s
  | .bitBMemHl bn => execBitBMemHl bn s
  | .resBR bn r => execResBR bn r s
  | .resBMemHl bn => execResBMemHl bn s
  | .setBR bn r => execSetBR bn r s
  | .setBMemHl bn => execSetBMemHl bn s
  | .inRC r => execInRC r s
  | .inFC => execInFC s
  | .outCR r => execOutCR r s
  | .outC0 => execOutC0 s
  | .sbcHlSs ss => execSbcHlSs ss s
  | .adcHlSs ss => execAdcHlSs ss s
  | .ldMemNnDd nn dd => execLdMemNnDd nn dd s
  | .ldDdMemNn dd nn => execLdDdMemNn dd nn s
  | .neg => execNeg s
  | .negMirror y => execNegMirror y s
  | .retn => execRetn s
  | .reti => execReti s
  | .retnMirror y => execRetnMirror y s
  | .im0 => execIm0 s
  | .im0Mirror4E => execIm0Mirror4E s
  | .im0Mirror66 => execIm0Mirror66 s
  | .im0Mirror6E => execIm0Mirror6E s
  | .im1 => execIm1 s
  | .im1Mirror => execIm1Mirror s
  | .im2 => execIm2 s
  | .im2Mirror => execIm2Mirror s
  | .ldIA => execLdIA s
  | .ldRA => execLdRA s
  | .ldAI => execLdAI s
  | .ldAR => execLdAR s
  | .rrd => execRrd s
  | .rld => execRld s
  | .nopEd77 x => execNopEd77 x s
  | .ldi => execLdi s
  | .cpi => execCpi s
  | .ini => execIni s
  | .outi => execOuti s
  | .ldd => execLdd s
  | .cpd => execCpd s
  | .ind => execInd s
  | .outd => execOutd s
  | .ldir => execLdir s
  | .cpir => execCpir s
  | .inir => execInir s
  | .otir => execOtir s
  | .lddr => execLddr s
  | .cpdr => execCpdr s
  | .indr => execIndr s
  | .otdr => execOtdr s
  | .nopEd00 x => execNopEd00 x s
  | .nopEd80 x => execNopEd80 x s
  | .nopEdA4 x4 x10 => execNopEdA4 x4 x10 s
  | .nopEdAC x4 x10 => execNopEdAC x4 x10 s
  | .nopEdC0 x => execNopEdC0 x s
  | .addXyPp xy pp => execAddXyPp xy pp s
  | .ldXyNn xy nn => execLdXyNn xy nn s
  | .ldMemNnXy nn xy => execLdMemNnXy nn xy s
  | .incXy xy => execIncXy xy s
  | .ldXyMemNn xy nn => execLdXyMemNn xy nn s
  | .decXy xy => execDecXy xy s
  | .incXyh xy h => execIncXyh xy h s
  | .decXyh xy h => execDecXyh xy h s
  | .ldXyhN xy h n => execLdXyhN xy h n s
  | .incMemXyd xy d => execIncMemXyd xy d s
  | .decMemXyd xy d => execDecMemXyd xy d s
  | .ldMemXydN xy d n => execLdMemXydN xy d n s
  | .ldRXyh r xy h => execLdRXyh r xy h s
  | .ldXyhR xy h r => execLdXyhR xy h r s
  | .ldXyhXyg xy h g => execLdXyhXyg xy h g s
  | .ldRMemXyd r xy d => execLdRMemXyd r xy d s
  | .ldMemXydR xy d r => execLdMemXydR xy d r s
  | .addAXyh xy h => execAddAXyh xy h s
  | .addAMemXyd xy d => execAddAMemXyd xy d s
  | .adcAXyh xy h => execAdcAXyh xy h s
  | .adcAMemXyd xy d => execAdcAMemXyd xy d s
  | .subXyh xy h => execSubXyh xy h s
  | .subMemXyd xy d => execSubMemXyd xy d s
  | .sbcAXyh xy h => execSbcAXyh xy h s
  | .sbcAMemXyd xy d => execSbcAMemXyd xy d s
  | .andXyh xy h => execAndXyh xy h s
  | .andMemXyd xy d => execAndMemXyd xy d s
  | .xorXyh xy h => execXorXyh xy h s
  | .xorMemXyd xy d => execXorMemXyd xy d s
  | .orXyh xy h => execOrXyh xy h s
  | .orMemXyd xy d => execOrMemXyd xy d s
  | .cpXyh xy h => execCpXyh xy h s
  | .cpMemXyd xy d => execCpMemXyd xy d s
  | .popXy xy => execPopXy xy s
  | .exSpXy xy => execExSpXy xy s
  | .pushXy xy => execPushXy xy s
  | .jpXy xy => execJpXy xy s
  | .ldSpXy xy => execLdSpXy xy s
  | .prefixCbIndex _ => .next s
  | .indexPrefixIgnored _ _ => .next s
  | .rlcMemXyd xy d => execRlcMemXyd xy d s
  | .rlcMemXydR xy d r => execRlcMemXydR xy d r s
  | .rrcMemXyd xy d => execRrcMemXyd xy d s
  | .rrcMemXydR xy d r => execRrcMemXydR xy d r s
  | .rlMemXyd xy d => execRlMemXyd xy d s
  | .rlMemXydR xy d r => execRlMemXydR xy d r s
  | .rrMemXyd xy d => execRrMemXyd xy d s
  | .rrMemXydR xy d r => execRrMemXydR xy d r s
  | .slaMemXyd xy d => execSlaMemXyd xy d s
  | .slaMemXydR xy d r => execSlaMemXydR xy d r s
  | .sraMemXyd xy d => execSraMemXyd xy d s
  | .sraMemXydR xy d r => execSraMemXydR xy d r s
  | .sllMemXyd xy d => execSllMemXyd xy d s
  | .sllMemXydR xy d r => execSllMemXydR xy d r s
  | .srlMemXyd xy d => execSrlMemXyd xy d s
  | .srlMemXydR xy d r => execSrlMemXydR xy d r s
  | .bitBMemXyd bn xy d => execBitBMemXyd bn xy d s
  | .bitBMemXydMirror bn xy d r => execBitBMemXydMirror bn xy d r s
  | .resBMemXyd bn xy d => execResBMemXyd bn xy d s
  | .resBMemXydR bn xy d r => execResBMemXydR bn xy d r s
  | .setBMemXyd bn xy d => execSetBMemXyd bn xy d s
  | .setBMemXydR bn xy d r => execSetBMemXydR bn xy d r s

/-- An ignored index prefix before the byte `o` (R468), once the prefix has been fetched. Before another index prefix
(case a) the step is the prefix alone, and the next boundary accepts no interrupt (R57). Otherwise (cases b and c) it costs
4 T-states, `Q <- 0`, and the step goes on with the instruction whose first byte is `o`, its stamps shifted by 4 (R103). -/
def execIndexPrefixIgnored (_xy : XY) (o : Byte) (s : State) : Host.Outcome State Fault Refusal :=
  if o = 0xDD ∨ o = 0xFD then
    endPlain 4 { s with ctl := { s.ctl with prefixBlock := true } }
  else
    let s1 := tick 4 (setQ 0x00 s)
    let pc := s1.regs.pc
    let b1 := if isPrefixByte o then m1Byte s1 (pc + 1) else memRead s1 (pc + 1)
    let d := decodeBytes o b1 (memRead s1 (pc + 2)) (memRead s1 (pc + 3))
    execDecoded d.instr (fetchDecoded d s1)

/-- What follows the prefix byte `b0` once it has been fetched (R137): the second byte by an M1 at offset 4, unless the
prefix is an ignored one; then the rest. -/
def execAfterPrefix (b0 : Byte) (s : State) : Host.Outcome State Fault Refusal :=
  let pc := s.regs.pc
  let d := decodeBytes b0 (m1Byte s pc) (memRead s (pc + 1)) (memRead s (pc + 2))
  match d.instr with
  | .indexPrefixIgnored xy o => execIndexPrefixIgnored xy o (fetchRest d s)
  | i => execDecoded i (fetchRest d s)

/-- `prefix CB` (R137): `op2 <- FetchM1(1)`, then the CB-space instruction. -/
def execPrefixCb (s : State) : Host.Outcome State Fault Refusal := execAfterPrefix 0xCB s

/-- `prefix ED` (R137): `op2 <- FetchM1(1)`, then the ED-space instruction. -/
def execPrefixEd (s : State) : Host.Outcome State Fault Refusal := execAfterPrefix 0xED s

/-- `prefix DD` (R137): the index prefix of IX. -/
def execPrefixDd (s : State) : Host.Outcome State Fault Refusal := execAfterPrefix 0xDD s

/-- `prefix FD` (R137): the index prefix of IY. -/
def execPrefixFd (s : State) : Host.Outcome State Fault Refusal := execAfterPrefix 0xFD s

/-- `prefix CB (index)` (R135, R137): `d <- FetchByte(); op3 <- FetchByte()`, then the XYCB instruction. -/
def execPrefixCbIndex (xy : XY) (s : State) : Host.Outcome State Fault Refusal :=
  let pc := s.regs.pc
  execDecoded (decodeXYCB xy (memRead s pc) (memRead s (pc + 1))) (skipBytes 2 s)

end Sys2Proof.Machine
end

