-- ==== Sys2Proof/Machine/Dispatch.lean ====
section
/-! DEFINITION. One arm per instruction, each a call of its meaning. -/

namespace Sys2Proof.Machine

/-- What an instruction does once its bytes have been fetched: PC stands past them, and the M1 cycles have happened
(log 17). -/
def exec (i : Instr) (s : State) : Host.Outcome State Fault Refusal :=
  match i with
  | .nop => Sys2Proof.Machine.execNop s
  | .exAfAf => Sys2Proof.Machine.execExAfAf s
  | .djnz e => Sys2Proof.Machine.execDjnz e s
  | .jr e => Sys2Proof.Machine.execJr e s
  | .jrCc cc e => Sys2Proof.Machine.execJrCc cc e s
  | .ldDdNn dd nn => Sys2Proof.Machine.execLdDdNn dd nn s
  | .addHlSs ss => Sys2Proof.Machine.execAddHlSs ss s
  | .ldMemBcA => Sys2Proof.Machine.execLdMemBcA s
  | .ldMemDeA => Sys2Proof.Machine.execLdMemDeA s
  | .ldMemNnHl nn => Sys2Proof.Machine.execLdMemNnHl nn s
  | .ldMemNnA nn => Sys2Proof.Machine.execLdMemNnA nn s
  | .ldAMemBc => Sys2Proof.Machine.execLdAMemBc s
  | .ldAMemDe => Sys2Proof.Machine.execLdAMemDe s
  | .ldHlMemNn nn => Sys2Proof.Machine.execLdHlMemNn nn s
  | .ldAMemNn nn => Sys2Proof.Machine.execLdAMemNn nn s
  | .incSs ss => Sys2Proof.Machine.execIncSs ss s
  | .decSs ss => Sys2Proof.Machine.execDecSs ss s
  | .incR r => Sys2Proof.Machine.execIncR r s
  | .incMemHl => Sys2Proof.Machine.execIncMemHl s
  | .decR r => Sys2Proof.Machine.execDecR r s
  | .decMemHl => Sys2Proof.Machine.execDecMemHl s
  | .ldRN r n => Sys2Proof.Machine.execLdRN r n s
  | .ldMemHlN n => Sys2Proof.Machine.execLdMemHlN n s
  | .rlca => Sys2Proof.Machine.execRlca s
  | .rrca => Sys2Proof.Machine.execRrca s
  | .rla => Sys2Proof.Machine.execRla s
  | .rra => Sys2Proof.Machine.execRra s
  | .daa => Sys2Proof.Machine.execDaa s
  | .cpl => Sys2Proof.Machine.execCpl s
  | .scf => Sys2Proof.Machine.execScf s
  | .ccf => Sys2Proof.Machine.execCcf s
  | .ldRR r src => Sys2Proof.Machine.execLdRR r src s
  | .ldRMemHl r => Sys2Proof.Machine.execLdRMemHl r s
  | .ldMemHlR r => Sys2Proof.Machine.execLdMemHlR r s
  | .halt => Sys2Proof.Machine.execHalt s
  | .addAR r => Sys2Proof.Machine.execAddAR r s
  | .addAMemHl => Sys2Proof.Machine.execAddAMemHl s
  | .adcAR r => Sys2Proof.Machine.execAdcAR r s
  | .adcAMemHl => Sys2Proof.Machine.execAdcAMemHl s
  | .subR r => Sys2Proof.Machine.execSubR r s
  | .subMemHl => Sys2Proof.Machine.execSubMemHl s
  | .sbcAR r => Sys2Proof.Machine.execSbcAR r s
  | .sbcAMemHl => Sys2Proof.Machine.execSbcAMemHl s
  | .andR r => Sys2Proof.Machine.execAndR r s
  | .andMemHl => Sys2Proof.Machine.execAndMemHl s
  | .xorR r => Sys2Proof.Machine.execXorR r s
  | .xorMemHl => Sys2Proof.Machine.execXorMemHl s
  | .orR r => Sys2Proof.Machine.execOrR r s
  | .orMemHl => Sys2Proof.Machine.execOrMemHl s
  | .cpR r => Sys2Proof.Machine.execCpR r s
  | .cpMemHl => Sys2Proof.Machine.execCpMemHl s
  | .retCc cc => Sys2Proof.Machine.execRetCc cc s
  | .popQq qq => Sys2Proof.Machine.execPopQq qq s
  | .ret => Sys2Proof.Machine.execRet s
  | .exx => Sys2Proof.Machine.execExx s
  | .jpHl => Sys2Proof.Machine.execJpHl s
  | .ldSpHl => Sys2Proof.Machine.execLdSpHl s
  | .jpCcNn cc nn => Sys2Proof.Machine.execJpCcNn cc nn s
  | .jpNn nn => Sys2Proof.Machine.execJpNn nn s
  | .outNA n => Sys2Proof.Machine.execOutNA n s
  | .inAN n => Sys2Proof.Machine.execInAN n s
  | .exSpHl => Sys2Proof.Machine.execExSpHl s
  | .exDeHl => Sys2Proof.Machine.execExDeHl s
  | .di => Sys2Proof.Machine.execDi s
  | .ei => Sys2Proof.Machine.execEi s
  | .callCcNn cc nn => Sys2Proof.Machine.execCallCcNn cc nn s
  | .pushQq qq => Sys2Proof.Machine.execPushQq qq s
  | .callNn nn => Sys2Proof.Machine.execCallNn nn s
  | .addAN n => Sys2Proof.Machine.execAddAN n s
  | .adcAN n => Sys2Proof.Machine.execAdcAN n s
  | .subN n => Sys2Proof.Machine.execSubN n s
  | .sbcAN n => Sys2Proof.Machine.execSbcAN n s
  | .andN n => Sys2Proof.Machine.execAndN n s
  | .xorN n => Sys2Proof.Machine.execXorN n s
  | .orN n => Sys2Proof.Machine.execOrN n s
  | .cpN n => Sys2Proof.Machine.execCpN n s
  | .rst p => Sys2Proof.Machine.execRst p s
  | .prefixCb => Sys2Proof.Machine.execPrefixCb s
  | .prefixEd => Sys2Proof.Machine.execPrefixEd s
  | .prefixDd => Sys2Proof.Machine.execPrefixDd s
  | .prefixFd => Sys2Proof.Machine.execPrefixFd s
  | .rlcR r => Sys2Proof.Machine.execRlcR r s
  | .rlcMemHl => Sys2Proof.Machine.execRlcMemHl s
  | .rrcR r => Sys2Proof.Machine.execRrcR r s
  | .rrcMemHl => Sys2Proof.Machine.execRrcMemHl s
  | .rlR r => Sys2Proof.Machine.execRlR r s
  | .rlMemHl => Sys2Proof.Machine.execRlMemHl s
  | .rrR r => Sys2Proof.Machine.execRrR r s
  | .rrMemHl => Sys2Proof.Machine.execRrMemHl s
  | .slaR r => Sys2Proof.Machine.execSlaR r s
  | .slaMemHl => Sys2Proof.Machine.execSlaMemHl s
  | .sraR r => Sys2Proof.Machine.execSraR r s
  | .sraMemHl => Sys2Proof.Machine.execSraMemHl s
  | .sllR r => Sys2Proof.Machine.execSllR r s
  | .sllMemHl => Sys2Proof.Machine.execSllMemHl s
  | .srlR r => Sys2Proof.Machine.execSrlR r s
  | .srlMemHl => Sys2Proof.Machine.execSrlMemHl s
  | .bitBR bn r => Sys2Proof.Machine.execBitBR bn r s
  | .bitBMemHl bn => Sys2Proof.Machine.execBitBMemHl bn s
  | .resBR bn r => Sys2Proof.Machine.execResBR bn r s
  | .resBMemHl bn => Sys2Proof.Machine.execResBMemHl bn s
  | .setBR bn r => Sys2Proof.Machine.execSetBR bn r s
  | .setBMemHl bn => Sys2Proof.Machine.execSetBMemHl bn s
  | .inRC r => Sys2Proof.Machine.execInRC r s
  | .inFC => Sys2Proof.Machine.execInFC s
  | .outCR r => Sys2Proof.Machine.execOutCR r s
  | .outC0 => Sys2Proof.Machine.execOutC0 s
  | .sbcHlSs ss => Sys2Proof.Machine.execSbcHlSs ss s
  | .adcHlSs ss => Sys2Proof.Machine.execAdcHlSs ss s
  | .ldMemNnDd nn dd => Sys2Proof.Machine.execLdMemNnDd nn dd s
  | .ldDdMemNn dd nn => Sys2Proof.Machine.execLdDdMemNn dd nn s
  | .neg => Sys2Proof.Machine.execNeg s
  | .negMirror y => Sys2Proof.Machine.execNegMirror y s
  | .retn => Sys2Proof.Machine.execRetn s
  | .reti => Sys2Proof.Machine.execReti s
  | .retnMirror y => Sys2Proof.Machine.execRetnMirror y s
  | .im0 => Sys2Proof.Machine.execIm0 s
  | .im0Mirror4E => Sys2Proof.Machine.execIm0Mirror4E s
  | .im0Mirror66 => Sys2Proof.Machine.execIm0Mirror66 s
  | .im0Mirror6E => Sys2Proof.Machine.execIm0Mirror6E s
  | .im1 => Sys2Proof.Machine.execIm1 s
  | .im1Mirror => Sys2Proof.Machine.execIm1Mirror s
  | .im2 => Sys2Proof.Machine.execIm2 s
  | .im2Mirror => Sys2Proof.Machine.execIm2Mirror s
  | .ldIA => Sys2Proof.Machine.execLdIA s
  | .ldRA => Sys2Proof.Machine.execLdRA s
  | .ldAI => Sys2Proof.Machine.execLdAI s
  | .ldAR => Sys2Proof.Machine.execLdAR s
  | .rrd => Sys2Proof.Machine.execRrd s
  | .rld => Sys2Proof.Machine.execRld s
  | .nopEd77 x => Sys2Proof.Machine.execNopEd77 x s
  | .ldi => Sys2Proof.Machine.execLdi s
  | .cpi => Sys2Proof.Machine.execCpi s
  | .ini => Sys2Proof.Machine.execIni s
  | .outi => Sys2Proof.Machine.execOuti s
  | .ldd => Sys2Proof.Machine.execLdd s
  | .cpd => Sys2Proof.Machine.execCpd s
  | .ind => Sys2Proof.Machine.execInd s
  | .outd => Sys2Proof.Machine.execOutd s
  | .ldir => Sys2Proof.Machine.execLdir s
  | .cpir => Sys2Proof.Machine.execCpir s
  | .inir => Sys2Proof.Machine.execInir s
  | .otir => Sys2Proof.Machine.execOtir s
  | .lddr => Sys2Proof.Machine.execLddr s
  | .cpdr => Sys2Proof.Machine.execCpdr s
  | .indr => Sys2Proof.Machine.execIndr s
  | .otdr => Sys2Proof.Machine.execOtdr s
  | .nopEd00 x => Sys2Proof.Machine.execNopEd00 x s
  | .nopEd80 x => Sys2Proof.Machine.execNopEd80 x s
  | .nopEdA4 x4 x10 => Sys2Proof.Machine.execNopEdA4 x4 x10 s
  | .nopEdAC x4 x10 => Sys2Proof.Machine.execNopEdAC x4 x10 s
  | .nopEdC0 x => Sys2Proof.Machine.execNopEdC0 x s
  | .addXyPp xy pp => Sys2Proof.Machine.execAddXyPp xy pp s
  | .ldXyNn xy nn => Sys2Proof.Machine.execLdXyNn xy nn s
  | .ldMemNnXy nn xy => Sys2Proof.Machine.execLdMemNnXy nn xy s
  | .incXy xy => Sys2Proof.Machine.execIncXy xy s
  | .ldXyMemNn xy nn => Sys2Proof.Machine.execLdXyMemNn xy nn s
  | .decXy xy => Sys2Proof.Machine.execDecXy xy s
  | .incXyh xy h => Sys2Proof.Machine.execIncXyh xy h s
  | .decXyh xy h => Sys2Proof.Machine.execDecXyh xy h s
  | .ldXyhN xy h n => Sys2Proof.Machine.execLdXyhN xy h n s
  | .incMemXyd xy d => Sys2Proof.Machine.execIncMemXyd xy d s
  | .decMemXyd xy d => Sys2Proof.Machine.execDecMemXyd xy d s
  | .ldMemXydN xy d n => Sys2Proof.Machine.execLdMemXydN xy d n s
  | .ldRXyh r xy h => Sys2Proof.Machine.execLdRXyh r xy h s
  | .ldXyhR xy h r => Sys2Proof.Machine.execLdXyhR xy h r s
  | .ldXyhXyg xy h g => Sys2Proof.Machine.execLdXyhXyg xy h g s
  | .ldRMemXyd r xy d => Sys2Proof.Machine.execLdRMemXyd r xy d s
  | .ldMemXydR xy d r => Sys2Proof.Machine.execLdMemXydR xy d r s
  | .addAXyh xy h => Sys2Proof.Machine.execAddAXyh xy h s
  | .addAMemXyd xy d => Sys2Proof.Machine.execAddAMemXyd xy d s
  | .adcAXyh xy h => Sys2Proof.Machine.execAdcAXyh xy h s
  | .adcAMemXyd xy d => Sys2Proof.Machine.execAdcAMemXyd xy d s
  | .subXyh xy h => Sys2Proof.Machine.execSubXyh xy h s
  | .subMemXyd xy d => Sys2Proof.Machine.execSubMemXyd xy d s
  | .sbcAXyh xy h => Sys2Proof.Machine.execSbcAXyh xy h s
  | .sbcAMemXyd xy d => Sys2Proof.Machine.execSbcAMemXyd xy d s
  | .andXyh xy h => Sys2Proof.Machine.execAndXyh xy h s
  | .andMemXyd xy d => Sys2Proof.Machine.execAndMemXyd xy d s
  | .xorXyh xy h => Sys2Proof.Machine.execXorXyh xy h s
  | .xorMemXyd xy d => Sys2Proof.Machine.execXorMemXyd xy d s
  | .orXyh xy h => Sys2Proof.Machine.execOrXyh xy h s
  | .orMemXyd xy d => Sys2Proof.Machine.execOrMemXyd xy d s
  | .cpXyh xy h => Sys2Proof.Machine.execCpXyh xy h s
  | .cpMemXyd xy d => Sys2Proof.Machine.execCpMemXyd xy d s
  | .popXy xy => Sys2Proof.Machine.execPopXy xy s
  | .exSpXy xy => Sys2Proof.Machine.execExSpXy xy s
  | .pushXy xy => Sys2Proof.Machine.execPushXy xy s
  | .jpXy xy => Sys2Proof.Machine.execJpXy xy s
  | .ldSpXy xy => Sys2Proof.Machine.execLdSpXy xy s
  | .prefixCbIndex xy => Sys2Proof.Machine.execPrefixCbIndex xy s
  | .indexPrefixIgnored xy o => Sys2Proof.Machine.execIndexPrefixIgnored xy o s
  | .rlcMemXyd xy d => Sys2Proof.Machine.execRlcMemXyd xy d s
  | .rlcMemXydR xy d r => Sys2Proof.Machine.execRlcMemXydR xy d r s
  | .rrcMemXyd xy d => Sys2Proof.Machine.execRrcMemXyd xy d s
  | .rrcMemXydR xy d r => Sys2Proof.Machine.execRrcMemXydR xy d r s
  | .rlMemXyd xy d => Sys2Proof.Machine.execRlMemXyd xy d s
  | .rlMemXydR xy d r => Sys2Proof.Machine.execRlMemXydR xy d r s
  | .rrMemXyd xy d => Sys2Proof.Machine.execRrMemXyd xy d s
  | .rrMemXydR xy d r => Sys2Proof.Machine.execRrMemXydR xy d r s
  | .slaMemXyd xy d => Sys2Proof.Machine.execSlaMemXyd xy d s
  | .slaMemXydR xy d r => Sys2Proof.Machine.execSlaMemXydR xy d r s
  | .sraMemXyd xy d => Sys2Proof.Machine.execSraMemXyd xy d s
  | .sraMemXydR xy d r => Sys2Proof.Machine.execSraMemXydR xy d r s
  | .sllMemXyd xy d => Sys2Proof.Machine.execSllMemXyd xy d s
  | .sllMemXydR xy d r => Sys2Proof.Machine.execSllMemXydR xy d r s
  | .srlMemXyd xy d => Sys2Proof.Machine.execSrlMemXyd xy d s
  | .srlMemXydR xy d r => Sys2Proof.Machine.execSrlMemXydR xy d r s
  | .bitBMemXyd bn xy d => Sys2Proof.Machine.execBitBMemXyd bn xy d s
  | .bitBMemXydMirror bn xy d r => Sys2Proof.Machine.execBitBMemXydMirror bn xy d r s
  | .resBMemXyd bn xy d => Sys2Proof.Machine.execResBMemXyd bn xy d s
  | .resBMemXydR bn xy d r => Sys2Proof.Machine.execResBMemXydR bn xy d r s
  | .setBMemXyd bn xy d => Sys2Proof.Machine.execSetBMemXyd bn xy d s
  | .setBMemXydR bn xy d r => Sys2Proof.Machine.execSetBMemXydR bn xy d r s

end Sys2Proof.Machine
end

