-- ==== Sys2Proof/Machine/Interrupt.lean ====
section
/-! DEFINITION. The start of a step, the acceptance of an interrupt, the halt cycle and the end of a step
(spec/60_exceptions.md R504 to R516, R520; spec/10_state.md R55 to R60). -/

namespace Sys2Proof.Machine

/-- What a step is (R504). -/
inductive StepKind where
  | nmi | maskable | haltCycle | instruction
deriving DecidableEq, Repr

/-- Is the maskable request asserted (R59)? -/
def maskableAsserted (s : State) : Bool := s.ctl.intReq || s.ctl.intLine

/-- The decision at the start of a step, in the order of R504. -/
def stepKind (s : State) : StepKind :=
  if s.ctl.nmiPending && !s.ctl.prefixBlock then .nmi
  else if maskableAsserted s && s.ctl.iff1 && !s.ctl.eiBlock && !s.ctl.prefixBlock then .maskable
  else if s.ctl.halted then .haltCycle
  else .instruction

/-- The start of a step (R504): the one-boundary bits are cleared once sampled, and the accounting of the step starts
(log 6). -/
def beginStep (s : State) : State :=
  { s with
    ctl := { s.ctl with eiBlock := false, prefixBlock := false, ldair := false }
    clk := { s.clk with stepT := 0, stepM1 := 0 }
    busOut := none }

/-- NMI acceptance (R507): IFF2 keeps the value IFF1 had; to 0x0066 in 11 T-states. -/
def acceptNmi (s : State) : Host.Outcome State Fault Refusal :=
  .next (enterInterrupt (fun _ => 0x0066) 11
    { s with ctl := { s.ctl with nmiPending := false, iff1 := false } })

/-- The part of a maskable acceptance that every mode shares (R508): the request latch, the P/V quirk of R512 when the
last step set `ldair`, the flip-flops, and the acknowledge event at the step's start (R520). -/
def acknowledge (la : Bool) (s : State) : State :=
  let s1 := { s with ctl := { s.ctl with intReq := false, iff1 := false, iff2 := false } }
  let s2 := if la then putF (s1.regs.f &&& 0xFB) s1 else s1
  if s2.cfg.hsyncSyncOnIntAck then boundaryAt s2.clk.cycles (advanceTo s2.clk.cycles s2) else s2

/-- Maskable acceptance (R508 to R510). Mode 0 runs only an `RST` data byte; any other is refused, as the spec says
(R509, log 11). -/
def acceptMaskable (la : Bool) (s : State) : Host.Outcome State Fault Refusal :=
  let data := s.cfg.intAckData
  match s.ctl.im with
  | .im0 =>
    if data &&& 0xC7 = 0xC7 then
      .next (enterInterrupt (fun _ => (data &&& 0x38).setWidth 16) 13 (acknowledge la s))
    else .refused (.im0DataNotRst data)
  | .im1 => .next (enterInterrupt (fun _ => 0x0038) 13 (acknowledge la s))
  | .im2 => .next (enterInterrupt (fun t => memRead16 t (joinBytes t.regs.i data)) 19 (acknowledge la s))

/-- A halt cycle (R55): 4 T-states, R counts, no byte is fetched, `Q <- 0`. -/
def haltCycle (s : State) : Host.Outcome State Fault Refusal := endPlain 4 (refreshM1 s)

/-- The level of /INT at the end of a step (R516). -/
def intLineLevel (s : State) : Bool :=
  s.cfg.intFromA6 && (s.clk.stepT == 4 * s.clk.stepM1) && !s.clk.stepR.getLsbD 6

/-- The end of a step (R504, R516, R520): `int_line` is recomputed, then the line boundaries before the new `cycles` are
processed. -/
def finishStep (s : State) : State :=
  advanceBefore s.clk.cycles { s with ctl := { s.ctl with intLine := intLineLevel s } }

/-- `finishStep` on a step that completed. -/
def finishOutcome : Host.Outcome State Fault Refusal → Host.Outcome State Fault Refusal
  | .next s => .next (finishStep s)
  | .fault r => .fault r
  | .refused r => .refused r

end Sys2Proof.Machine
end

