-- ==== Sys2Proof/Machine/Step.lean ====
section
/-! DEFINITION. One step of the machine (spec/60_exceptions.md R504), and an instruction placed where the next step
fetches. -/

namespace Sys2Proof.Machine

/-- One step (R504): an NMI acceptance, a maskable acceptance, a halt cycle or one instruction, then the end of the
step. -/
def step (s : State) : Host.Outcome State Fault Refusal :=
  let s0 := beginStep s
  finishOutcome
    (match stepKind s with
    | .nmi => acceptNmi s0
    | .maskable => acceptMaskable s.ctl.ldair s0
    | .haltCycle => haltCycle s0
    | .instruction => exec (decodeAt s0).instr (fetchDecoded (decodeAt s0) s0))

/-- `s` with the table word's instruction where the next step fetches (log 10). PC is kept where its four bytes lie below
0x8000, where no M1 is a video fetch (R522); otherwise it goes to the same place of the ROM region. What would make
the next step something else than an instruction is cleared. -/
def State.withFetchWord (s : State) (nbits w : Nat) : State :=
  let pc := if s.regs.pc.toNat < 0x7FFD then s.regs.pc else s.regs.pc &&& 0x3FFF
  let s1 := rawWriteBytes (tableBytes4 nbits w) pc s
  { s1 with
    regs := { s1.regs with pc := pc }
    ctl := { s1.ctl with halted := false, nmiPending := false, intReq := false, intLine := false } }

end Sys2Proof.Machine
end

