-- ==== Sys2Proof/Machine/HostCalls.lean ====
section
/-! DEFINITION. What the host can do between steps (spec/60_exceptions.md R526 to R533, spec/70_reset_and_hazards.md R600 to
R604, spec/10_state.md R63), and the two ends of a run (spec/70_reset_and_hazards.md R608). -/

namespace Sys2Proof.Machine

/-- The errors a host call can return (R529). `InvariantViolation` is never produced. -/
inductive HostError where
  /-- A bad image address or size (R531), or a key position outside the matrix (R532). Safe: nothing changes. -/
  | configurationError
deriving DecidableEq, Repr

/-- What a host call that can fail gives back (R529). -/
inductive HostResult where
  | ok (s : State)
  | error (e : HostError)
deriving DecidableEq, Repr

/-- `reset()` (R600, R603): ROM, `cycles`, the line timer, `keys` and `frame_counter` are kept. -/
def hostReset (s : State) : State :=
  { s with
    regs := resetRegs s.cfg
    ctl := resetCtl
    clk := { s.clk with stepT := 0, stepM1 := 0, stepR := 0x00 }
    ula := { s.ula with
      nmiGenOn := false, vsync := false, lcntr := 0, lineNo := 0, frameComplete := false, fb := [], fbOut := [] }
    ram := if s.cfg.resetClearsRam then Memory.fill s.cfg.ramPowerOnFill s.cfg.ramSize.bytes Config.ramClearValue
      else s.ram
    busOut := none }

/-- `loadImage(bytes, atAddress)` (R531): through the address map, past the ROM protection; nothing is written when the
image does not fit. -/
def loadImage (bytes : List Byte) (base : Nat) (s : State) : HostResult :=
  if base ≥ 0x10000 ∨ base + bytes.length > 0x10000 then .error .configurationError
  else .ok (rawWriteBytes bytes (BitVec.ofNat 16 base) s)

/-- `setKeyState((row, col), pressed)` (R532). -/
def setKeyState (row col : Nat) (pressed : Bool) (s : State) : HostResult :=
  if row < 8 ∧ col < 5 then
    let bit : BitVec 40 := 1 <<< (5 * row + col)
    let keys := if pressed then s.ula.keys ||| bit else s.ula.keys &&& ~~~bit
    .ok { s with ula := { s.ula with keys := keys } }
  else .error .configurationError

/-- The kinds of `requestInterrupt` (R503). -/
inductive IntKind where
  | nmi | int
deriving DecidableEq, Repr

/-- `requestInterrupt(kind)` (R503): a request already pending merges with it. -/
def requestInterrupt (kind : IntKind) (s : State) : State :=
  match kind with
  | .nmi => { s with ctl := { s.ctl with nmiPending := true } }
  | .int => { s with ctl := { s.ctl with intReq := true } }

/-- `FrameOutput` (R527): a copy of the completed frame. -/
structure FrameOutput where
  pixels : Pixels
  frame : Nat
  cycles : Nat
deriving DecidableEq, Repr

/-- How `runFrame` ends (R527). A refused step ends it as it ends the run (R509). -/
inductive FrameResult where
  | frame (out : FrameOutput) (s : State)
  | stalled (cycles : Nat) (s : State)
  | stopped (r : Refusal)
deriving DecidableEq, Repr

/-- The loop of `runFrame` (R527) with `total` T-states spent. Every step takes at least 4 T-states, so the count of
rounds does not run out before the budget does (log 21). -/
def runFrameLoop : Nat → Nat → State → FrameResult
  | 0, total, s => .stalled total s
  | n + 1, total, s =>
    match step s with
    | .next s1 =>
      let total1 := total + s1.clk.stepT
      if s1.ula.frameComplete then
        let s2 := { s1 with ula := { s1.ula with frameComplete := false }, frameCounter := s1.frameCounter + 1 }
        .frame { pixels := s2.ula.fbOut, frame := s2.frameCounter, cycles := total1 } s2
      else if total1 > s1.cfg.maxFrameCycles then .stalled total1 s1
      else runFrameLoop n total1 s1
    | .fault r => nomatch r
    | .refused r => .stopped r

/-- `runFrame()` (R527). -/
def runFrame (s : State) : FrameResult := runFrameLoop (s.cfg.maxFrameCycles + 1) 0 s

/-- The program-level end of a run (R608), at a step boundary: halted, no maskable interrupt can come (IFF1 is 0, or no
source can assert), no NMI is pending, and the NMI generator is off. The rule's last condition, that the host makes no
further request, is about the calls that follow and not about the state (log 24). -/
def programEnded (s : State) : Bool :=
  s.ctl.halted && (!s.ctl.iff1 || (!s.ctl.intReq && !s.cfg.intFromA6)) && !s.ctl.nmiPending && !s.ula.nmiGenOn

/-- How a program run ends (R608): at its end boundary; still running when the steps it was given are used up (a run whose
program never halts has no end state); or at a step that is refused (R509). -/
inductive ProgramResult where
  | ended (s : State)
  | running (s : State)
  | stopped (r : Refusal)
deriving DecidableEq, Repr

/-- A program run of at most `n` steps without a host call (R608): it ends at the first step boundary, the one it starts at
included, that is a program-level end. -/
def runProgram : Nat → State → ProgramResult
  | 0, s => if programEnded s then .ended s else .running s
  | n + 1, s =>
    if programEnded s then .ended s
    else
      match step s with
      | .next t => runProgram n t
      | .fault r => nomatch r
      | .refused r => .stopped r

/-- What `inspect()` returns (R63). -/
structure Snapshot where
  regs : Regs
  ctl : Ctl
  cycles : Nat
deriving DecidableEq, Repr

/-- `inspect()` (R63): a read, which changes nothing. -/
def inspect (s : State) : Snapshot := { regs := s.regs, ctl := s.ctl, cycles := s.clk.cycles }

end Sys2Proof.Machine
end

