-- ==== Sys2Proof/Safety.lean ====
section
/-! DEFINITION. The terms the statements use: what an instruction leaves behind, in the spec's own terms; the operand forms
that several instructions share; and the invariant of the machine. No definition of the machine uses this file. -/

namespace Sys2Proof.Machine

/-! ### After an instruction -/

/-- `s` after an instruction of `t` T-states that left the registers `g` and the record `q` of the flags it wrote (R54,
R61), and changed nothing else. -/
def after (t : Nat) (q : Byte) (g : Regs) (s : State) : State :=
  { s with
    regs := g
    ctl := { s.ctl with q := q }
    clk := { s.clk with cycles := s.clk.cycles + t, stepT := s.clk.stepT + t } }

/-- After an instruction that writes no flag: `Q` is 0. -/
def afterQuiet (t : Nat) (g : Regs) (s : State) : State := after t 0x00 g s

/-- After an instruction that writes flags: `Q` is the new F. -/
def afterFlags (t : Nat) (g : Regs) (s : State) : State := after t g.f g s

/-! ### Memory as the CPU sees it -/

/-- Does a byte stored at `addr` change what is read at `a` (R82, R84, R85)? Both addresses are in a RAM region (bit 14),
and they are mirrors of one RAM byte. -/
def hitsCell (cfg : Config) (addr a : Word) : Bool :=
  addr.getLsbD 14 && a.getLsbD 14 && a.toNat % cfg.ramSize.bytes == addr.toNat % cfg.ramSize.bytes

/-- What `a` reads once the listed bytes have been stored, the last store first in the list. -/
def readAfter (s : State) : List (Word × Byte) → Word → Byte
  | [], a => memRead s a
  | (addr, v) :: rest, a => if hitsCell s.cfg addr a then v else readAfter s rest a

/-- `t` is `s` but for RAM, and every address reads in `t` as the stores say (the last store first). -/
def StoresTo (s t : State) (stores : List (Word × Byte)) : Prop :=
  t = { s with ram := t.ram } ∧ ∀ a, memRead t a = readAfter s stores a

/-- The two bytes of a word stored at `addr`, the last store first (R89). -/
def wordStores (addr v : Word) : List (Word × Byte) := [(addr + 1, hiByte v), (addr, loByte v)]

/-- The two bytes of `Push16(v)`, the last store first (R90). -/
def pushStores (sp v : Word) : List (Word × Byte) := [(sp - 2, loByte v), (sp - 1, hiByte v)]

/-! ### The eight ALU operations and their operand forms (R126, R280) -/

/-- Table `alu` (R126). -/
inductive AluOp where
  | add | adc | sub | sbc | and | xor | or | cp
deriving DecidableEq, Repr

/-- The five forms of R280. -/
inductive AluForm where
  | reg (r : Reg8)
  | memHl
  | imm (n : Byte)
  | half (xy : XY) (h : Half)
  | memXyd (xy : XY) (d : Byte)
deriving DecidableEq, Repr

/-- The instruction of an operation and a form. -/
def aluInstr : AluOp → AluForm → Instr
  | .add, .reg r => .addAR r
  | .add, .memHl => .addAMemHl
  | .add, .imm n => .addAN n
  | .add, .half xy h => .addAXyh xy h
  | .add, .memXyd xy d => .addAMemXyd xy d
  | .adc, .reg r => .adcAR r
  | .adc, .memHl => .adcAMemHl
  | .adc, .imm n => .adcAN n
  | .adc, .half xy h => .adcAXyh xy h
  | .adc, .memXyd xy d => .adcAMemXyd xy d
  | .sub, .reg r => .subR r
  | .sub, .memHl => .subMemHl
  | .sub, .imm n => .subN n
  | .sub, .half xy h => .subXyh xy h
  | .sub, .memXyd xy d => .subMemXyd xy d
  | .sbc, .reg r => .sbcAR r
  | .sbc, .memHl => .sbcAMemHl
  | .sbc, .imm n => .sbcAN n
  | .sbc, .half xy h => .sbcAXyh xy h
  | .sbc, .memXyd xy d => .sbcAMemXyd xy d
  | .and, .reg r => .andR r
  | .and, .memHl => .andMemHl
  | .and, .imm n => .andN n
  | .and, .half xy h => .andXyh xy h
  | .and, .memXyd xy d => .andMemXyd xy d
  | .xor, .reg r => .xorR r
  | .xor, .memHl => .xorMemHl
  | .xor, .imm n => .xorN n
  | .xor, .half xy h => .xorXyh xy h
  | .xor, .memXyd xy d => .xorMemXyd xy d
  | .or, .reg r => .orR r
  | .or, .memHl => .orMemHl
  | .or, .imm n => .orN n
  | .or, .half xy h => .orXyh xy h
  | .or, .memXyd xy d => .orMemXyd xy d
  | .cp, .reg r => .cpR r
  | .cp, .memHl => .cpMemHl
  | .cp, .imm n => .cpN n
  | .cp, .half xy h => .cpXyh xy h
  | .cp, .memXyd xy d => .cpMemXyd xy d

/-- The registers once the form's operand has been addressed: the indexed form latches its address in WZ (R280). -/
def aluLatch (form : AluForm) (g : Regs) : Regs :=
  match form with
  | .memXyd xy d => { g with wz := indexedAddr xy d g }
  | .reg _ | .memHl | .imm _ | .half _ _ => g

/-- The operand `v` of a form (R280). -/
def aluOperand (form : AluForm) (s : State) : Byte :=
  match form with
  | .reg r => getR8 r s.regs
  | .memHl => memRead s s.regs.hl
  | .imm n => n
  | .half xy h => getHalf xy h s.regs
  | .memXyd xy d => memRead s (indexedAddr xy d s.regs)

/-- The T-states of a form (R280). -/
def aluTime (form : AluForm) : Nat :=
  match form with
  | .reg _ => 4
  | .memHl | .imm _ => 7
  | .half _ _ => 8
  | .memXyd _ _ => 19

/-- The new A of an operation (R284 to R291): `CP` keeps it. -/
def aluA (op : AluOp) (a v : Byte) (c : Bool) : Byte :=
  match op with
  | .add => a + v
  | .adc => a + v + bitByte c
  | .sub => a - v
  | .sbc => a - v - bitByte c
  | .and => a &&& v
  | .xor => a ^^^ v
  | .or => a ||| v
  | .cp => a

/-! ### The eight rotates and shifts and their operand forms (R127, R354, R363) -/

/-- The four forms of R354. -/
inductive RotForm where
  | reg (r : Reg8)
  | memHl
  | memXyd (xy : XY) (d : Byte)
  | memXydR (xy : XY) (d : Byte) (r : Reg8)
deriving DecidableEq, Repr

/-- The instruction of an operation and a form. -/
def rotInstr : RotOp → RotForm → Instr
  | .rlc, .reg r => .rlcR r
  | .rlc, .memHl => .rlcMemHl
  | .rlc, .memXyd xy d => .rlcMemXyd xy d
  | .rlc, .memXydR xy d r => .rlcMemXydR xy d r
  | .rrc, .reg r => .rrcR r
  | .rrc, .memHl => .rrcMemHl
  | .rrc, .memXyd xy d => .rrcMemXyd xy d
  | .rrc, .memXydR xy d r => .rrcMemXydR xy d r
  | .rl, .reg r => .rlR r
  | .rl, .memHl => .rlMemHl
  | .rl, .memXyd xy d => .rlMemXyd xy d
  | .rl, .memXydR xy d r => .rlMemXydR xy d r
  | .rr, .reg r => .rrR r
  | .rr, .memHl => .rrMemHl
  | .rr, .memXyd xy d => .rrMemXyd xy d
  | .rr, .memXydR xy d r => .rrMemXydR xy d r
  | .sla, .reg r => .slaR r
  | .sla, .memHl => .slaMemHl
  | .sla, .memXyd xy d => .slaMemXyd xy d
  | .sla, .memXydR xy d r => .slaMemXydR xy d r
  | .sra, .reg r => .sraR r
  | .sra, .memHl => .sraMemHl
  | .sra, .memXyd xy d => .sraMemXyd xy d
  | .sra, .memXydR xy d r => .sraMemXydR xy d r
  | .sll, .reg r => .sllR r
  | .sll, .memHl => .sllMemHl
  | .sll, .memXyd xy d => .sllMemXyd xy d
  | .sll, .memXydR xy d r => .sllMemXydR xy d r
  | .srl, .reg r => .srlR r
  | .srl, .memHl => .srlMemHl
  | .srl, .memXyd xy d => .srlMemXyd xy d
  | .srl, .memXydR xy d r => .srlMemXydR xy d r

/-! ### Results in plain arithmetic -/

/-- Even parity (R12): the number of 1 bits is even. -/
def evenParity (v : Byte) : Bool := ((List.range 8).filter (v.getLsbD ·)).length % 2 == 0

/-- Outside the range of an 8-bit two's-complement number. -/
def overflows8 (n : Int) : Bool := decide (n < -128 ∨ 127 < n)

/-- Outside the range of a 16-bit two's-complement number. -/
def overflows16 (n : Int) : Bool := decide (n < -32768 ∨ 32767 < n)

/-- The new F of an ALU operation (R281 to R291): carry, half carry and overflow as comparisons of exact sums. -/
def aluFlags (op : AluOp) (a v : Byte) (c : Bool) : Byte :=
  let arith (cin : Bool) : Byte :=
    let res := a + v + bitByte cin
    packF (res.getLsbD 7) (res == 0) (res.getLsbD 5) (decide (a.toNat % 16 + v.toNat % 16 + cin.toNat > 15))
      (res.getLsbD 3) (overflows8 (a.toInt + v.toInt + cin.toNat)) false (decide (a.toNat + v.toNat + cin.toNat > 255))
  let borrow (cin : Bool) (yx : Byte → Byte) : Byte :=
    let res := a - v - bitByte cin
    packF (res.getLsbD 7) (res == 0) ((yx res).getLsbD 5) (decide (a.toNat % 16 < v.toNat % 16 + cin.toNat))
      ((yx res).getLsbD 3) (overflows8 (a.toInt - v.toInt - cin.toNat)) true (decide (a.toNat < v.toNat + cin.toNat))
  let logic (res : Byte) (h : Bool) : Byte :=
    packF (res.getLsbD 7) (res == 0) (res.getLsbD 5) h (res.getLsbD 3) (evenParity res) false false
  match op with
  | .add => arith false
  | .adc => arith c
  | .sub => borrow false id
  | .sbc => borrow c id
  | .and => logic (a &&& v) true
  | .xor => logic (a ^^^ v) false
  | .or => logic (a ||| v) false
  | .cp => borrow false fun _ => v

/-- The new F of `INC` (R292). -/
def incFlags (v f : Byte) : Byte :=
  let res := v + 1
  packF (res.getLsbD 7) (res == 0) (res.getLsbD 5) (decide (v.toNat % 16 + 1 > 15)) (res.getLsbD 3)
    (overflows8 (v.toInt + 1)) false (flagC f)

/-- The new F of `DEC` (R295). -/
def decFlags (v f : Byte) : Byte :=
  let res := v - 1
  packF (res.getLsbD 7) (res == 0) (res.getLsbD 5) (decide (v.toNat % 16 < 1)) (res.getLsbD 3)
    (overflows8 (v.toInt - 1)) true (flagC f)

/-- The new F of a 16-bit addition with carry in (R331). -/
def adcFlags16 (x y : Word) (c : Bool) : Byte :=
  let res := x + y + (bitByte c).setWidth 16
  packF (res.getLsbD 15) (res == 0) (res.getLsbD 13) (decide (x.toNat % 4096 + y.toNat % 4096 + c.toNat > 4095))
    (res.getLsbD 11) (overflows16 (x.toInt + y.toInt + c.toNat)) false (decide (x.toNat + y.toNat + c.toNat > 65535))

/-- The new F of a 16-bit subtraction with borrow in (R332). -/
def sbcFlags16 (x y : Word) (c : Bool) : Byte :=
  let res := x - y - (bitByte c).setWidth 16
  packF (res.getLsbD 15) (res == 0) (res.getLsbD 13) (decide (x.toNat % 4096 < y.toNat % 4096 + c.toNat))
    (res.getLsbD 11) (overflows16 (x.toInt - y.toInt - c.toNat)) true (decide (x.toNat < y.toNat + c.toNat))

/-- The new F of `ADD HL,ss` and `ADD XY,pp` (R330, R333): S, Z and P/V are kept. -/
def addFlags16 (x y : Word) (f : Byte) : Byte :=
  let res := x + y
  packF (flagS f) (flagZ f) (res.getLsbD 13) (decide (x.toNat % 4096 + y.toNat % 4096 > 4095)) (res.getLsbD 11)
    (flagPV f) false (decide (x.toNat + y.toNat > 65535))

/-- The result of a rotate or shift as a number, and the bit shifted out (R354). -/
def rotValue (op : RotOp) (v : Nat) (c : Bool) : Nat × Bool :=
  match op with
  | .rlc => ((2 * v + v / 128) % 256, decide (v ≥ 128))
  | .rrc => (v / 2 + 128 * (v % 2), decide (v % 2 = 1))
  | .rl => ((2 * v + c.toNat) % 256, decide (v ≥ 128))
  | .rr => (v / 2 + 128 * c.toNat, decide (v % 2 = 1))
  | .sla => (2 * v % 256, decide (v ≥ 128))
  | .sra => (v / 2 + 128 * (v / 128), decide (v % 2 = 1))
  | .sll => ((2 * v + 1) % 256, decide (v ≥ 128))
  | .srl => (v / 2, decide (v % 2 = 1))

/-- The result byte of a rotate or shift (R354). -/
def rotRes (op : RotOp) (v f : Byte) : Byte := byte (rotValue op v.toNat (flagC f)).1

/-- The new F of a CB rotate or shift (R354). -/
def rotFlags (op : RotOp) (v f : Byte) : Byte :=
  let res := rotRes op v f
  packF (res.getLsbD 7) (res == 0) (res.getLsbD 5) false (res.getLsbD 3) (evenParity res) false
    (rotValue op v.toNat (flagC f)).2

/-- The new F of `BIT b` (R366 to R368), with the byte that gives Y and X. -/
def bitFlags (bn : Fin 8) (v yx f : Byte) : Byte :=
  let one := v.toNat / 2 ^ bn.val % 2 == 1
  packF (one && bn == 7) (!one) (yx.getLsbD 5) true (yx.getLsbD 3) (!one) false (flagC f)

/-- S, Z, Y, X and P/V of `v`, H and N clear, C kept (R364, R432). -/
def readFlags (v f : Byte) : Byte :=
  packF (v.getLsbD 7) (v == 0) (v.getLsbD 5) false (v.getLsbD 3) (evenParity v) false (flagC f)

/-- The value of a byte of two decimal digits, if both digits are below 10. -/
def bcdValue (v : Byte) : Option Nat :=
  if v.toNat / 16 < 10 ∧ v.toNat % 16 < 10 then some (10 * (v.toNat / 16) + v.toNat % 16) else none

/-! ### Classes of instructions -/

/-- The rows of the opcode table that are prefix bytes, not whole instructions (R137, R143). -/
def isPrefixRow (i : Instr) : Bool :=
  match i with
  | .prefixCb | .prefixEd | .prefixDd | .prefixFd | .prefixCbIndex _ | .indexPrefixIgnored _ _ => true
  | .nop | .exAfAf | .djnz _ | .jr _ | .jrCc _ _ | .ldDdNn _ _ | .addHlSs _ | .ldMemBcA | .ldMemDeA | .ldMemNnHl _ |
  .ldMemNnA _ | .ldAMemBc | .ldAMemDe | .ldHlMemNn _ | .ldAMemNn _ | .incSs _ | .decSs _ | .incR _ | .incMemHl |
  .decR _ | .decMemHl | .ldRN _ _ | .ldMemHlN _ | .rlca | .rrca | .rla | .rra | .daa | .cpl | .scf | .ccf |
  .ldRR _ _ | .ldRMemHl _ | .ldMemHlR _ | .halt | .addAR _ | .addAMemHl | .adcAR _ | .adcAMemHl | .subR _ |
  .subMemHl | .sbcAR _ | .sbcAMemHl | .andR _ | .andMemHl | .xorR _ | .xorMemHl | .orR _ | .orMemHl | .cpR _ |
  .cpMemHl | .retCc _ | .popQq _ | .ret | .exx | .jpHl | .ldSpHl | .jpCcNn _ _ | .jpNn _ | .outNA _ | .inAN _ |
  .exSpHl | .exDeHl | .di | .ei | .callCcNn _ _ | .pushQq _ | .callNn _ | .addAN _ | .adcAN _ | .subN _ | .sbcAN _ |
  .andN _ | .xorN _ | .orN _ | .cpN _ | .rst _ | .rlcR _ | .rlcMemHl | .rrcR _ | .rrcMemHl | .rlR _ | .rlMemHl |
  .rrR _ | .rrMemHl | .slaR _ | .slaMemHl | .sraR _ | .sraMemHl | .sllR _ | .sllMemHl | .srlR _ | .srlMemHl |
  .bitBR _ _ | .bitBMemHl _ | .resBR _ _ | .resBMemHl _ | .setBR _ _ | .setBMemHl _ | .inRC _ | .inFC | .outCR _ |
  .outC0 | .sbcHlSs _ | .adcHlSs _ | .ldMemNnDd _ _ | .ldDdMemNn _ _ | .neg | .negMirror _ | .retn | .reti |
  .retnMirror _ | .im0 | .im0Mirror4E | .im0Mirror66 | .im0Mirror6E | .im1 | .im1Mirror | .im2 | .im2Mirror | .ldIA
  | .ldRA | .ldAI | .ldAR | .rrd | .rld | .nopEd77 _ | .ldi | .cpi | .ini | .outi | .ldd | .cpd | .ind | .outd |
  .ldir | .cpir | .inir | .otir | .lddr | .cpdr | .indr | .otdr | .nopEd00 _ | .nopEd80 _ | .nopEdA4 _ _ |
  .nopEdAC _ _ | .nopEdC0 _ | .addXyPp _ _ | .ldXyNn _ _ | .ldMemNnXy _ _ | .incXy _ | .ldXyMemNn _ _ | .decXy _ |
  .incXyh _ _ | .decXyh _ _ | .ldXyhN _ _ _ | .incMemXyd _ _ | .decMemXyd _ _ | .ldMemXydN _ _ _ | .ldRXyh _ _ _ |
  .ldXyhR _ _ _ | .ldXyhXyg _ _ _ | .ldRMemXyd _ _ _ | .ldMemXydR _ _ _ | .addAXyh _ _ | .addAMemXyd _ _ |
  .adcAXyh _ _ | .adcAMemXyd _ _ | .subXyh _ _ | .subMemXyd _ _ | .sbcAXyh _ _ | .sbcAMemXyd _ _ | .andXyh _ _ |
  .andMemXyd _ _ | .xorXyh _ _ | .xorMemXyd _ _ | .orXyh _ _ | .orMemXyd _ _ | .cpXyh _ _ | .cpMemXyd _ _ | .popXy _
  | .exSpXy _ | .pushXy _ | .jpXy _ | .ldSpXy _ | .rlcMemXyd _ _ | .rlcMemXydR _ _ _ | .rrcMemXyd _ _ |
  .rrcMemXydR _ _ _ | .rlMemXyd _ _ | .rlMemXydR _ _ _ | .rrMemXyd _ _ | .rrMemXydR _ _ _ | .slaMemXyd _ _ |
  .slaMemXydR _ _ _ | .sraMemXyd _ _ | .sraMemXydR _ _ _ | .sllMemXyd _ _ | .sllMemXydR _ _ _ | .srlMemXyd _ _ |
  .srlMemXydR _ _ _ | .bitBMemXyd _ _ _ | .bitBMemXydMirror _ _ _ _ | .resBMemXyd _ _ _ | .resBMemXydR _ _ _ _ |
  .setBMemXyd _ _ _ | .setBMemXydR _ _ _ _ => false

/-- The first list of R47: the instructions that write flags, so that `Q <- F` (R54). A prefix row is not asked about. -/
def writesFlags (i : Instr) : Bool :=
  match i with
  | .addHlSs _ | .incR _ | .incMemHl | .decR _ | .decMemHl | .rlca | .rrca | .rla | .rra | .daa | .cpl | .scf | .ccf
  | .addAR _ | .addAMemHl | .adcAR _ | .adcAMemHl | .subR _ | .subMemHl | .sbcAR _ | .sbcAMemHl | .andR _ |
  .andMemHl | .xorR _ | .xorMemHl | .orR _ | .orMemHl | .cpR _ | .cpMemHl | .addAN _ | .adcAN _ | .subN _ | .sbcAN _
  | .andN _ | .xorN _ | .orN _ | .cpN _ | .rlcR _ | .rlcMemHl | .rrcR _ | .rrcMemHl | .rlR _ | .rlMemHl | .rrR _ |
  .rrMemHl | .slaR _ | .slaMemHl | .sraR _ | .sraMemHl | .sllR _ | .sllMemHl | .srlR _ | .srlMemHl | .bitBR _ _ |
  .bitBMemHl _ | .inRC _ | .inFC | .sbcHlSs _ | .adcHlSs _ | .neg | .negMirror _ | .ldAI | .ldAR | .rrd | .rld |
  .ldi | .cpi | .ini | .outi | .ldd | .cpd | .ind | .outd | .ldir | .cpir | .inir | .otir | .lddr | .cpdr | .indr |
  .otdr | .addXyPp _ _ | .incXyh _ _ | .decXyh _ _ | .incMemXyd _ _ | .decMemXyd _ _ | .addAXyh _ _ |
  .addAMemXyd _ _ | .adcAXyh _ _ | .adcAMemXyd _ _ | .subXyh _ _ | .subMemXyd _ _ | .sbcAXyh _ _ | .sbcAMemXyd _ _ |
  .andXyh _ _ | .andMemXyd _ _ | .xorXyh _ _ | .xorMemXyd _ _ | .orXyh _ _ | .orMemXyd _ _ | .cpXyh _ _ |
  .cpMemXyd _ _ | .rlcMemXyd _ _ | .rlcMemXydR _ _ _ | .rrcMemXyd _ _ | .rrcMemXydR _ _ _ | .rlMemXyd _ _ |
  .rlMemXydR _ _ _ | .rrMemXyd _ _ | .rrMemXydR _ _ _ | .slaMemXyd _ _ | .slaMemXydR _ _ _ | .sraMemXyd _ _ |
  .sraMemXydR _ _ _ | .sllMemXyd _ _ | .sllMemXydR _ _ _ | .srlMemXyd _ _ | .srlMemXydR _ _ _ | .bitBMemXyd _ _ _ |
  .bitBMemXydMirror _ _ _ _ => true
  | .nop | .exAfAf | .djnz _ | .jr _ | .jrCc _ _ | .ldDdNn _ _ | .ldMemBcA | .ldMemDeA | .ldMemNnHl _ | .ldMemNnA _
  | .ldAMemBc | .ldAMemDe | .ldHlMemNn _ | .ldAMemNn _ | .incSs _ | .decSs _ | .ldRN _ _ | .ldMemHlN _ | .ldRR _ _ |
  .ldRMemHl _ | .ldMemHlR _ | .halt | .retCc _ | .popQq _ | .ret | .exx | .jpHl | .ldSpHl | .jpCcNn _ _ | .jpNn _ |
  .outNA _ | .inAN _ | .exSpHl | .exDeHl | .di | .ei | .callCcNn _ _ | .pushQq _ | .callNn _ | .rst _ | .prefixCb |
  .prefixEd | .prefixDd | .prefixFd | .resBR _ _ | .resBMemHl _ | .setBR _ _ | .setBMemHl _ | .outCR _ | .outC0 |
  .ldMemNnDd _ _ | .ldDdMemNn _ _ | .retn | .reti | .retnMirror _ | .im0 | .im0Mirror4E | .im0Mirror66 |
  .im0Mirror6E | .im1 | .im1Mirror | .im2 | .im2Mirror | .ldIA | .ldRA | .nopEd77 _ | .nopEd00 _ | .nopEd80 _ |
  .nopEdA4 _ _ | .nopEdAC _ _ | .nopEdC0 _ | .ldXyNn _ _ | .ldMemNnXy _ _ | .incXy _ | .ldXyMemNn _ _ | .decXy _ |
  .ldXyhN _ _ _ | .ldMemXydN _ _ _ | .ldRXyh _ _ _ | .ldXyhR _ _ _ | .ldXyhXyg _ _ _ | .ldRMemXyd _ _ _ |
  .ldMemXydR _ _ _ | .popXy _ | .exSpXy _ | .pushXy _ | .jpXy _ | .ldSpXy _ | .prefixCbIndex _ |
  .indexPrefixIgnored _ _ | .resBMemXyd _ _ _ | .resBMemXydR _ _ _ _ | .setBMemXyd _ _ _ | .setBMemXydR _ _ _ _ =>
  false

/-- The T-states of an instruction in a state, taken or not taken, repeating or final (R617, R618, and the field `tstates`
of the opcode table). The rows that are prefix bytes have none of their own. -/
def tStates (i : Instr) (s : State) : Nat :=
  match i with
  | .nop | .exAfAf | .incR _ | .decR _ | .rlca | .rrca | .rla | .rra | .daa | .cpl | .scf | .ccf | .ldRR _ _ | .halt
  | .addAR _ | .adcAR _ | .subR _ | .sbcAR _ | .andR _ | .xorR _ | .orR _ | .cpR _ | .exx | .jpHl | .exDeHl | .di |
  .ei => 4
  | .incSs _ | .decSs _ | .ldSpHl => 6
  | .ldMemBcA | .ldMemDeA | .ldAMemBc | .ldAMemDe | .ldRN _ _ | .ldRMemHl _ | .ldMemHlR _ | .addAMemHl | .adcAMemHl
  | .subMemHl | .sbcAMemHl | .andMemHl | .xorMemHl | .orMemHl | .cpMemHl | .addAN _ | .adcAN _ | .subN _ | .sbcAN _
  | .andN _ | .xorN _ | .orN _ | .cpN _ => 7
  | .rlcR _ | .rrcR _ | .rlR _ | .rrR _ | .slaR _ | .sraR _ | .sllR _ | .srlR _ | .bitBR _ _ | .resBR _ _ |
  .setBR _ _ | .neg | .negMirror _ | .im0 | .im0Mirror4E | .im0Mirror66 | .im0Mirror6E | .im1 | .im1Mirror | .im2 |
  .im2Mirror | .nopEd77 _ | .nopEd00 _ | .nopEd80 _ | .nopEdA4 _ _ | .nopEdAC _ _ | .nopEdC0 _ | .incXyh _ _ |
  .decXyh _ _ | .ldRXyh _ _ _ | .ldXyhR _ _ _ | .ldXyhXyg _ _ _ | .addAXyh _ _ | .adcAXyh _ _ | .subXyh _ _ |
  .sbcAXyh _ _ | .andXyh _ _ | .xorXyh _ _ | .orXyh _ _ | .cpXyh _ _ | .jpXy _ => 8
  | .ldIA | .ldRA | .ldAI | .ldAR => 9
  | .ldDdNn _ _ | .ldMemHlN _ | .popQq _ | .ret | .jpCcNn _ _ | .jpNn _ | .incXy _ | .decXy _ | .ldSpXy _ => 10
  | .addHlSs _ | .incMemHl | .decMemHl | .outNA _ | .inAN _ | .pushQq _ | .rst _ | .ldXyhN _ _ _ => 11
  | .jr _ | .bitBMemHl _ | .inRC _ | .inFC | .outCR _ | .outC0 => 12
  | .ldMemNnA _ | .ldAMemNn _ => 13
  | .retn | .reti | .retnMirror _ | .ldXyNn _ _ | .popXy _ => 14
  | .rlcMemHl | .rrcMemHl | .rlMemHl | .rrMemHl | .slaMemHl | .sraMemHl | .sllMemHl | .srlMemHl | .resBMemHl _ |
  .setBMemHl _ | .sbcHlSs _ | .adcHlSs _ | .addXyPp _ _ | .pushXy _ => 15
  | .ldMemNnHl _ | .ldHlMemNn _ | .ldi | .cpi | .ini | .outi | .ldd | .cpd | .ind | .outd => 16
  | .callNn _ => 17
  | .rrd | .rld => 18
  | .exSpHl | .ldMemXydN _ _ _ | .ldRMemXyd _ _ _ | .ldMemXydR _ _ _ | .addAMemXyd _ _ | .adcAMemXyd _ _ |
  .subMemXyd _ _ | .sbcAMemXyd _ _ | .andMemXyd _ _ | .xorMemXyd _ _ | .orMemXyd _ _ | .cpMemXyd _ _ => 19
  | .ldMemNnDd _ _ | .ldDdMemNn _ _ | .ldMemNnXy _ _ | .ldXyMemNn _ _ | .bitBMemXyd _ _ _ |
  .bitBMemXydMirror _ _ _ _ => 20
  | .incMemXyd _ _ | .decMemXyd _ _ | .exSpXy _ | .rlcMemXyd _ _ | .rlcMemXydR _ _ _ | .rrcMemXyd _ _ |
  .rrcMemXydR _ _ _ | .rlMemXyd _ _ | .rlMemXydR _ _ _ | .rrMemXyd _ _ | .rrMemXydR _ _ _ | .slaMemXyd _ _ |
  .slaMemXydR _ _ _ | .sraMemXyd _ _ | .sraMemXydR _ _ _ | .sllMemXyd _ _ | .sllMemXydR _ _ _ | .srlMemXyd _ _ |
  .srlMemXydR _ _ _ | .resBMemXyd _ _ _ | .resBMemXydR _ _ _ _ | .setBMemXyd _ _ _ | .setBMemXydR _ _ _ _ => 23
  | .djnz _ => if s.regs.b - 1 != 0 then 13 else 8
  | .jrCc cc _ => if cond4Holds cc s.regs.f then 12 else 7
  | .retCc cc => if condHolds cc s.regs.f then 11 else 5
  | .callCcNn cc _ => if condHolds cc s.regs.f then 17 else 10
  | .ldir => if s.regs.bc - 1 != 0 then 21 else 16
  | .lddr => if s.regs.bc - 1 != 0 then 21 else 16
  | .cpir => if s.regs.bc - 1 != 0 && s.regs.a != memRead s s.regs.hl then 21 else 16
  | .cpdr => if s.regs.bc - 1 != 0 && s.regs.a != memRead s s.regs.hl then 21 else 16
  | .inir => if s.regs.b - 1 != 0 then 21 else 16
  | .indr => if s.regs.b - 1 != 0 then 21 else 16
  | .otir => if s.regs.b - 1 != 0 then 21 else 16
  | .otdr => if s.regs.b - 1 != 0 then 21 else 16
  | .prefixCb | .prefixEd | .prefixDd | .prefixFd | .prefixCbIndex _ | .indexPrefixIgnored _ _ => 0

/-! ### Runs -/

/-- `n` steps without a host call lead from the first state to the second. -/
def stepsTo : Nat → State → State → Prop
  | 0, s, t => s = t
  | n + 1, s, t => ∃ u, step s = .next u ∧ stepsTo n u t

/-! ### The invariant -/

/-- What every step keeps. Memory and pictures are canonical; the parameters are legal; the line timer is at its line; the
row counter is held at 0 during VSYNC (R521); IFF2 is set whenever IFF1 is (R51); `Q` is 0 or F (R54); after `EI` alone is
`ei_block` set (R56); /INT is asserted only where it is wired to A6 (R516). -/
structure State.Inv (s : State) : Prop where
  mem : s.memWf
  cfg : s.cfg.wf = true
  line : s.ula.nextLine = s.ula.lineStart + Config.lineT
  started : s.ula.lineStart ≤ s.clk.cycles
  current : s.clk.cycles ≤ s.ula.nextLine
  held : s.ula.vsync = true → s.ula.lcntr = 0
  iff : s.ctl.iff1 = true → s.ctl.iff2 = true
  flags : s.ctl.q = 0x00 ∨ s.ctl.q = s.regs.f
  blocked : s.ctl.eiBlock = true → s.ctl.iff1 = true
  wired : s.ctl.intLine = true → s.cfg.intFromA6 = true

/-- The only stop of a step (R509): a mode 0 acceptance whose data byte is no `RST`. -/
def stopsAtIm0 (s : State) : Bool :=
  stepKind s == .maskable && s.ctl.im == .im0 && s.cfg.intAckData &&& 0xC7 != 0xC7

end Sys2Proof.Machine
end

