-- ==== Sys2Proof/Certificates/Slice0/Obligations.lean ====
section
/-! DEFINITION. The statements for the provers. Each docstring names the rules of spec/ it formalises; `derived` statements
rest on them without stating them whole. -/

open Sys2Proof Sys2Proof.Machine

/-! ## Encoding -/

/-- Decoding the bytes of a well-formed instruction gives it back with its length (R120 to R137), whatever bytes follow.
The ignored index prefix takes only its own byte; the second byte of its encoding belongs to what follows (R468). The other
prefix rows are what a list that ends at a prefix byte decodes to (log 8). -/
def Obligations.DecodeOfEncode : Prop :=
  ∀ i : Instr, i.wellFormed = true →
    (∃ d, decode (encode i) = .ok d ∧ d.instr = i ∧
      d.len = (match i with | .indexPrefixIgnored _ _ => 1 | _ => (encode i).length)) ∧
    (isPrefixRow i = false → ∀ rest : List Byte,
      ∃ d, decode (encode i ++ rest) = .ok d ∧ d.instr = i ∧ d.len = (encode i).length)

/-- No encoding is illegal (R138): every four bytes decode to a well-formed instruction of 1 to 4 bytes, and encoding it
gives the bytes back. -/
def Obligations.EncodeOfDecode : Prop :=
  ∀ b0 b1 b2 b3 : Byte,
    let d := decodeBytes b0 b1 b2 b3
    d.instr.wellFormed = true ∧ 1 ≤ d.m1s ∧ d.m1s ≤ d.len ∧ d.len ≤ 4 ∧
      encode d.instr = [b0, b1, b2, b3].take (match d.instr with | .indexPrefixIgnored _ _ => 2 | _ => d.len)

/-- Words written out from the encoding fields of R121 to R136: `LD A,n`, `JP nn`, `BIT 7,A`, `LDIR`, `LD (IX+d),n`,
`SET 0,(IY+d),B`. -/
def Obligations.DecodeSampleWords : Prop :=
  decode [0b00111110#8, 0x5A#8] = .ok ⟨.ldRN .a 0x5A#8, 2, 1⟩ ∧
    decode [0b11000011#8, 0x34#8, 0x12#8] = .ok ⟨.jpNn 0x1234#16, 3, 1⟩ ∧
    decode [0b11001011#8, 0b01111111#8] = .ok ⟨.bitBR 7 .a, 2, 2⟩ ∧
    decode [0b11101101#8, 0b10110000#8] = .ok ⟨.ldir, 2, 2⟩ ∧
    decode [0b11011101#8, 0b00110110#8, 0xFE#8, 0x55#8] = .ok ⟨.ldMemXydN .ix 0xFE#8 0x55#8, 4, 2⟩ ∧
    decode [0b11111101#8, 0b11001011#8, 0x05#8, 0b11000000#8] = .ok ⟨.setBMemXydR 0 .iy 0x05#8 .b, 4, 2⟩

/-! ## Fetching and memory -/

/-- A step that runs an instruction runs the one that the bytes at PC decode to (R137, R504): the fetch first, then the
instruction, then the end of the step. -/
def Obligations.StepRunsDecoded : Prop :=
  ∀ (s : State) (d : Decoded), stepKind s = .instruction → decode (fetchBytes s) = .ok d →
    step s = finishOutcome (exec d.instr (fetchDecoded d (beginStep s)))

/-- The fetch of an instruction moves PC past its bytes, counts its M1 cycles in R without touching bit 7 of R, and changes
no other register and no memory (R45, R50, R65, R91, R92). -/
def Obligations.FetchMovesPcAndR : Prop :=
  ∀ s : State,
    let d := decodeAt s
    let t := fetchDecoded d s
    t.regs = { s.regs with
        pc := s.regs.pc + BitVec.ofNat 16 d.len
        r := (s.regs.r &&& 0x80) ||| ((s.regs.r + BitVec.ofNat 8 d.m1s) &&& 0x7F) } ∧
      t.clk.stepM1 = s.clk.stepM1 + d.m1s ∧ t.clk.cycles = s.clk.cycles ∧ t.rom = s.rom ∧ t.ram = s.ram

/-- The address map (R82), and what follows from it: A15 is not decoded. -/
def Obligations.AddressMap : Prop :=
  (∀ (cfg : Config) (a : Word),
    place cfg a =
      (let low := (a &&& 0x7FFF).toNat
       if low < 0x4000 then .rom (low &&& (Config.romSize - 1))
       else .ram ((low - 0x4000) &&& (cfg.ramSize.bytes - 1)))) ∧
    ∀ (s : State) (a : Word), memRead s (a ^^^ 0x8000) = memRead s a

/-- A RAM address reads the RAM array; a stored byte is read back at every mirror of its RAM address, and every other
address reads as before (R84). -/
def Obligations.StoreThenRead : Prop :=
  (∀ (s : State) (a : Word), a.getLsbD 14 = true →
    memRead s a = Memory.read s.cfg.ramPowerOnFill s.ram (a.toNat % s.cfg.ramSize.bytes)) ∧
    ∀ (s : State) (addr a : Word) (v : Byte), s.memWf →
      memRead (memWrite s addr v) a = if hitsCell s.cfg addr a then v else memRead s a

/-- A ROM address reads the ROM array; a CPU write to it changes no state, and the instruction still takes its T-states
(R85). -/
def Obligations.RomStoresAreDropped : Prop :=
  (∀ (s : State) (a : Word), a.getLsbD 14 = false →
    memRead s a = Memory.read romDefault s.rom (a.toNat % 8192) ∧ ∀ v, memWrite s a v = s) ∧
    ∀ (s : State) (r : Reg8), s.regs.hl.getLsbD 14 = false →
      exec (.ldMemHlR r) s = .next (afterQuiet 7 s.regs s)

/-- 16-bit accesses (R89): low byte first, each byte's address wrapping on its own; and a word stored in RAM is read
back. -/
def Obligations.WordsAreLittleEndian : Prop :=
  (∀ (s : State) (a : Word),
    memRead16 s a = (memRead s a).setWidth 16 ||| ((memRead s (a + 1)).setWidth 16 <<< 8)) ∧
    (∀ (s : State) (a v : Word),
      memWrite16 s a v = memWrite (memWrite s a (v.extractLsb' 0 8)) (a + 1) (v.extractLsb' 8 8)) ∧
    ∀ (s : State) (a v : Word), s.memWf → a.getLsbD 14 = true → (a + 1).getLsbD 14 = true →
      memRead16 (memWrite16 s a v) a = v

/-! ## Loads and exchanges -/

/-- Register and immediate 8-bit loads (R200, R201, R218 to R221): the destination, PC as fetched, nothing else. -/
def Obligations.LoadRegisters8 : Prop :=
  (∀ (r src : Reg8) (s : State),
    exec (.ldRR r src) s = .next (afterQuiet 4 (setR8 r (getR8 src s.regs) s.regs) s)) ∧
    (∀ (r : Reg8) (n : Byte) (s : State), exec (.ldRN r n) s = .next (afterQuiet 7 (setR8 r n s.regs) s)) ∧
    (∀ (r : Reg8) (xy : XY) (h : Half) (s : State),
      exec (.ldRXyh r xy h) s = .next (afterQuiet 8 (setR8 r (getHalf xy h s.regs) s.regs) s)) ∧
    (∀ (xy : XY) (h : Half) (r : Reg8) (s : State),
      exec (.ldXyhR xy h r) s = .next (afterQuiet 8 (setHalf xy h (getR8 r s.regs) s.regs) s)) ∧
    (∀ (xy : XY) (h g : Half) (s : State),
      exec (.ldXyhXyg xy h g) s = .next (afterQuiet 8 (setHalf xy h (getHalf xy g s.regs) s.regs) s)) ∧
    ∀ (xy : XY) (h : Half) (n : Byte) (s : State),
      exec (.ldXyhN xy h n) s = .next (afterQuiet 11 (setHalf xy h n s.regs) s)

/-- 8-bit loads from memory (R202, R203, R208 to R210): the destination, WZ where the rule writes it, nothing else. -/
def Obligations.LoadFromMemory8 : Prop :=
  ∀ s : State,
    (∀ r, exec (.ldRMemHl r) s = .next (afterQuiet 7 (setR8 r (memRead s s.regs.hl) s.regs) s)) ∧
    (∀ r xy d,
      let ea := getXY xy s.regs + d.signExtend 16
      exec (.ldRMemXyd r xy d) s = .next (afterQuiet 19 { setR8 r (memRead s ea) s.regs with wz := ea } s)) ∧
    exec .ldAMemBc s = .next (afterQuiet 7 { s.regs with a := memRead s s.regs.bc, wz := s.regs.bc + 1 } s) ∧
    exec .ldAMemDe s = .next (afterQuiet 7 { s.regs with a := memRead s s.regs.de, wz := s.regs.de + 1 } s) ∧
    ∀ nn, exec (.ldAMemNn nn) s = .next (afterQuiet 13 { s.regs with a := memRead s nn, wz := nn + 1 } s)

/-- 8-bit stores (R204 to R207, R211 to R213): one byte at the computed address, WZ where the rule writes it, nothing
else. -/
def Obligations.StoreToMemory8 : Prop :=
  ∀ s : State, s.memWf →
    (∀ r, ∃ u, StoresTo s u [(s.regs.hl, getR8 r s.regs)] ∧
      exec (.ldMemHlR r) s = .next (afterQuiet 7 s.regs u)) ∧
    (∀ n, ∃ u, StoresTo s u [(s.regs.hl, n)] ∧ exec (.ldMemHlN n) s = .next (afterQuiet 10 s.regs u)) ∧
    (∀ xy d r, ∃ u,
      let ea := getXY xy s.regs + d.signExtend 16
      StoresTo s u [(ea, getR8 r s.regs)] ∧
        exec (.ldMemXydR xy d r) s = .next (afterQuiet 19 { s.regs with wz := ea } u)) ∧
    (∀ xy d n, ∃ u,
      let ea := getXY xy s.regs + d.signExtend 16
      StoresTo s u [(ea, n)] ∧ exec (.ldMemXydN xy d n) s = .next (afterQuiet 19 { s.regs with wz := ea } u)) ∧
    (∃ u, StoresTo s u [(s.regs.bc, s.regs.a)] ∧
      exec .ldMemBcA s = .next (afterQuiet 7 { s.regs with wz := joinBytes s.regs.a (s.regs.c + 1) } u)) ∧
    (∃ u, StoresTo s u [(s.regs.de, s.regs.a)] ∧
      exec .ldMemDeA s = .next (afterQuiet 7 { s.regs with wz := joinBytes s.regs.a (s.regs.e + 1) } u)) ∧
    ∀ nn, ∃ u, StoresTo s u [(nn, s.regs.a)] ∧
      exec (.ldMemNnA nn) s = .next (afterQuiet 13 { s.regs with wz := joinBytes s.regs.a (loByte nn + 1) } u)

/-- `LD A,I`, `LD A,R`, `LD I,A` and `LD R,A` (R214 to R217), with the flags of the first two and the mark they leave for
the next boundary (R60). -/
def Obligations.LoadInterruptAndRefresh : Prop :=
  ∀ s : State,
    (∀ (i : Instr) (v : Byte), (i = .ldAI ∧ v = s.regs.i ∨ i = .ldAR ∧ v = s.regs.r) →
      ∃ f,
        exec i s = .next (afterFlags 9 { s.regs with a := v, f := f }
          { s with ctl := { s.ctl with ldair := true } }) ∧
        flagS f = v.getLsbD 7 ∧ flagZ f = (v == 0) ∧ flagY f = v.getLsbD 5 ∧ flagH f = false ∧
        flagX f = v.getLsbD 3 ∧ flagPV f = s.ctl.iff2 ∧ flagN f = false ∧ flagC f = flagC s.regs.f) ∧
    exec .ldIA s = .next (afterQuiet 9 { s.regs with i := s.regs.a } s) ∧
    exec .ldRA s = .next (afterQuiet 9 { s.regs with r := s.regs.a } s)

/-- 16-bit loads into registers (R230 to R234, R238, R239). -/
def Obligations.LoadRegisters16 : Prop :=
  ∀ s : State,
    (∀ dd nn, exec (.ldDdNn dd nn) s = .next (afterQuiet 10 (setRP dd nn s.regs) s)) ∧
    (∀ xy nn, exec (.ldXyNn xy nn) s = .next (afterQuiet 14 (setXY xy nn s.regs) s)) ∧
    (∀ nn, exec (.ldHlMemNn nn) s = .next (afterQuiet 16
      { s.regs with h := memRead s (nn + 1), l := memRead s nn, wz := nn + 1 } s)) ∧
    (∀ xy nn, exec (.ldXyMemNn xy nn) s = .next (afterQuiet 20
      { setXY xy (joinBytes (memRead s (nn + 1)) (memRead s nn)) s.regs with wz := nn + 1 } s)) ∧
    (∀ dd nn, exec (.ldDdMemNn dd nn) s = .next (afterQuiet 20
      { setRP dd (joinBytes (memRead s (nn + 1)) (memRead s nn)) s.regs with wz := nn + 1 } s)) ∧
    exec .ldSpHl s = .next (afterQuiet 6 { s.regs with sp := s.regs.hl } s) ∧
    ∀ xy, exec (.ldSpXy xy) s = .next (afterQuiet 10 { s.regs with sp := getXY xy s.regs } s)

/-- 16-bit stores (R235 to R237): two bytes, low byte at the address, high byte at the next one. -/
def Obligations.StoreToMemory16 : Prop :=
  ∀ s : State, s.memWf → ∀ nn : Word,
    (∃ u, StoresTo s u (wordStores nn s.regs.hl) ∧
      exec (.ldMemNnHl nn) s = .next (afterQuiet 16 { s.regs with wz := nn + 1 } u)) ∧
    (∀ xy, ∃ u, StoresTo s u (wordStores nn (getXY xy s.regs)) ∧
      exec (.ldMemNnXy nn xy) s = .next (afterQuiet 20 { s.regs with wz := nn + 1 } u)) ∧
    ∀ dd, ∃ u, StoresTo s u (wordStores nn (getRP dd s.regs)) ∧
      exec (.ldMemNnDd nn dd) s = .next (afterQuiet 20 { s.regs with wz := nn + 1 } u)

/-- `PUSH` and `POP` (R90, R240 to R243): the stack bytes, SP, the popped pair; a pop reads each byte at its own wrapped
address. -/
def Obligations.PushAndPop : Prop :=
  ∀ s : State,
    let top := joinBytes (memRead s (s.regs.sp + 1)) (memRead s s.regs.sp)
    (s.memWf → ∀ qq, ∃ u, StoresTo s u (pushStores s.regs.sp (getRP2 qq s.regs)) ∧
      exec (.pushQq qq) s = .next (afterQuiet 11 { s.regs with sp := s.regs.sp - 2 } u)) ∧
    (s.memWf → ∀ xy, ∃ u, StoresTo s u (pushStores s.regs.sp (getXY xy s.regs)) ∧
      exec (.pushXy xy) s = .next (afterQuiet 15 { s.regs with sp := s.regs.sp - 2 } u)) ∧
    (∀ qq, exec (.popQq qq) s = .next (afterQuiet 10 { setRP2 qq top s.regs with sp := s.regs.sp + 2 } s)) ∧
    ∀ xy, exec (.popXy xy) s = .next (afterQuiet 14 { setXY xy top s.regs with sp := s.regs.sp + 2 } s)

/-- What is pushed in RAM is popped again, into any pair; and a called routine returns to the instruction after the call
(R90, R240, R242, R397, R399). -/
def Obligations.StackRoundTrips : Prop :=
  ∀ s : State, s.memWf → (s.regs.sp - 1).getLsbD 14 = true → (s.regs.sp - 2).getLsbD 14 = true →
    (∀ q1 q2, ∃ t u, exec (.pushQq q1) s = .next t ∧ exec (.popQq q2) t = .next u ∧
      getRP2 q2 u.regs = getRP2 q1 s.regs ∧ u.regs.sp = s.regs.sp) ∧
    ∀ nn, ∃ t u, exec (.callNn nn) s = .next t ∧ t.regs.pc = nn ∧ exec .ret t = .next u ∧
      u.regs.pc = s.regs.pc ∧ u.regs.sp = s.regs.sp

/-- The exchanges (R244 to R248). -/
def Obligations.Exchanges : Prop :=
  ∀ s : State,
    let g := s.regs
    let top := joinBytes (memRead s (g.sp + 1)) (memRead s g.sp)
    exec .exDeHl s = .next (afterQuiet 4 { g with d := g.h, e := g.l, h := g.d, l := g.e } s) ∧
    exec .exAfAf s = .next (afterQuiet 4
      { g with a := hiByte g.afAlt, f := loByte g.afAlt, afAlt := joinBytes g.a g.f } s) ∧
    exec .exx s = .next (afterQuiet 4
      { g with
        b := hiByte g.bcAlt, c := loByte g.bcAlt, d := hiByte g.deAlt, e := loByte g.deAlt
        h := hiByte g.hlAlt, l := loByte g.hlAlt
        bcAlt := joinBytes g.b g.c, deAlt := joinBytes g.d g.e, hlAlt := joinBytes g.h g.l } s) ∧
    (s.memWf → ∃ u, StoresTo s u (wordStores g.sp g.hl) ∧
      exec .exSpHl s = .next (afterQuiet 19 { g with h := hiByte top, l := loByte top, wz := top } u)) ∧
    (s.memWf → ∀ xy, ∃ u, StoresTo s u (wordStores g.sp (getXY xy g)) ∧
      exec (.exSpXy xy) s = .next (afterQuiet 23 { setXY xy top g with wz := top } u))

/-! ## Block transfer and search -/

/-- `LDI`, `LDD`, `LDIR` and `LDDR` (R260 to R264): one iteration; the repeating forms go back to their own address and
take 21 T-states while BC is not 0. After an iteration that repeats, the bits of `BLOCK_REPEAT_FLAGS` are the parameter's
(log 4): every other flag is as stated. -/
def Obligations.BlockTransfer : Prop :=
  ∀ s : State, s.memWf → ∀ (i : Instr) (step : Word) (repeats : Bool),
    (i = .ldi ∧ step = 1 ∧ repeats = false ∨ i = .ldd ∧ step = -1 ∧ repeats = false ∨
      i = .ldir ∧ step = 1 ∧ repeats = true ∨ i = .lddr ∧ step = -1 ∧ repeats = true) →
    let g := s.regs
    let v := memRead s g.hl
    let bc := g.bc - 1
    let n := v + g.a
    let f := packF (flagS g.f) (flagZ g.f) (n.getLsbD 1) false (n.getLsbD 3) (bc != 0) false (flagC g.f)
    let g1 := setHL (g.hl + step) (setDE (g.de + step) (setBC bc { g with f := f }))
    ∃ u, StoresTo s u [(g.de, v)] ∧
      (repeats = true ∧ bc ≠ 0 → ∃ f1 k,
        exec i s = .next (afterFlags 21 { g1 with pc := g.pc - 2, wz := g.pc - 1, f := f1 } { u with freeIx := k }) ∧
        f1 &&& 0xD7 = f &&& 0xD7 ∧ (s.cfg.blockRepeatFlags = .asFinal → f1 = f ∧ k = s.freeIx)) ∧
      (¬(repeats = true ∧ bc ≠ 0) → exec i s = .next (afterFlags 16 g1 u))

/-- `CPI`, `CPD`, `CPIR` and `CPDR` (R260, R265 to R268): one iteration; the repeating forms go on while BC is not 0 and
the byte differs from A. Memory is not written. After an iteration that repeats, Y and X are as the parameter
`BLOCK_REPEAT_FLAGS` says, which is the model's treatment (log 4). -/
def Obligations.BlockSearch : Prop :=
  ∀ (s : State) (i : Instr) (step : Word) (repeats : Bool),
    (i = .cpi ∧ step = 1 ∧ repeats = false ∨ i = .cpd ∧ step = -1 ∧ repeats = false ∨
      i = .cpir ∧ step = 1 ∧ repeats = true ∨ i = .cpdr ∧ step = -1 ∧ repeats = true) →
    let g := s.regs
    let v := memRead s g.hl
    let bc := g.bc - 1
    let res := g.a - v
    let h := decide (g.a.toNat % 16 < v.toNat % 16)
    let n := res - bitByte h
    let f := packF (res.getLsbD 7) (g.a == v) (n.getLsbD 1) h (n.getLsbD 3) (bc != 0) true (flagC g.f)
    let g1 := setHL (g.hl + step) (setBC bc { g with f := f, wz := g.wz + step })
    (repeats = true ∧ bc ≠ 0 ∧ g.a ≠ v → ∃ f1 k,
      exec i s = .next (afterFlags 21 { g1 with pc := g.pc - 2, wz := g.pc - 1, f := f1 } { s with freeIx := k }) ∧
      f1 &&& 0xD7 = f &&& 0xD7 ∧ (s.cfg.blockRepeatFlags = .asFinal → f1 = f ∧ k = s.freeIx)) ∧
    (¬(repeats = true ∧ bc ≠ 0 ∧ g.a ≠ v) → exec i s = .next (afterFlags 16 g1 s))

/-! ## Arithmetic and logic -/

/-- The eight ALU operations in their five forms (R280 to R291): A, all eight flags as exact sums and differences give
them, WZ in the indexed form, nothing else. -/
def Obligations.AluResults : Prop :=
  ∀ (op : AluOp) (form : AluForm) (s : State),
    let g := aluLatch form s.regs
    let v := aluOperand form s
    exec (aluInstr op form) s = .next (afterFlags (aluTime form)
      { g with a := aluA op g.a v (flagC g.f), f := aluFlags op g.a v (flagC g.f) } s)

/-- `INC` and `DEC` of a register, a byte of an index register, `(HL)` and `(XY+d)` (R292 to R297): C is kept. -/
def Obligations.IncAndDec8 : Prop :=
  ∀ s : State,
    let g := s.regs
    (∀ r, exec (.incR r) s = .next (afterFlags 4
      { setR8 r (getR8 r g + 1) g with f := incFlags (getR8 r g) g.f } s)) ∧
    (∀ r, exec (.decR r) s = .next (afterFlags 4
      { setR8 r (getR8 r g - 1) g with f := decFlags (getR8 r g) g.f } s)) ∧
    (∀ xy h, exec (.incXyh xy h) s = .next (afterFlags 8
      { setHalf xy h (getHalf xy h g + 1) g with f := incFlags (getHalf xy h g) g.f } s)) ∧
    (∀ xy h, exec (.decXyh xy h) s = .next (afterFlags 8
      { setHalf xy h (getHalf xy h g - 1) g with f := decFlags (getHalf xy h g) g.f } s)) ∧
    (s.memWf →
      let v := memRead s g.hl
      (∃ u, StoresTo s u [(g.hl, v + 1)] ∧
        exec .incMemHl s = .next (afterFlags 11 { g with f := incFlags v g.f } u)) ∧
      ∃ u, StoresTo s u [(g.hl, v - 1)] ∧
        exec .decMemHl s = .next (afterFlags 11 { g with f := decFlags v g.f } u)) ∧
    (s.memWf → ∀ xy d,
      let ea := getXY xy g + d.signExtend 16
      let v := memRead s ea
      (∃ u, StoresTo s u [(ea, v + 1)] ∧
        exec (.incMemXyd xy d) s = .next (afterFlags 23 { g with wz := ea, f := incFlags v g.f } u)) ∧
      ∃ u, StoresTo s u [(ea, v - 1)] ∧
        exec (.decMemXyd xy d) s = .next (afterFlags 23 { g with wz := ea, f := decFlags v g.f } u))

/-- `DAA` (R298), `CPL` (R299), `NEG` with its mirrors (R300), `CCF` (R301) and `SCF` (R302). -/
def Obligations.AccumulatorAndFlagOps : Prop :=
  ∀ s : State,
    let g := s.regs
    let lo := g.a.toNat % 16
    let high := flagC g.f || decide (g.a.toNat > 0x99)
    let diff : Byte := byte ((if high then 0x60 else 0) + (if flagH g.f || decide (lo > 9) then 0x06 else 0))
    let res := if flagN g.f then g.a - diff else g.a + diff
    let h := if flagN g.f then flagH g.f && decide (lo < 6) else decide (lo > 9)
    let source := (s.ctl.q ^^^ g.f) ||| g.a
    exec .daa s = .next (afterFlags 4
      { g with
        a := res
        f := packF (res.getLsbD 7) (res == 0) (res.getLsbD 5) h (res.getLsbD 3) (evenParity res) (flagN g.f) high } s) ∧
    exec .cpl s = .next (afterFlags 4
      { g with
        a := ~~~g.a
        f := packF (flagS g.f) (flagZ g.f) (!g.a.getLsbD 5) true (!g.a.getLsbD 3) (flagPV g.f) true (flagC g.f) } s) ∧
    (∀ i, (i = .neg ∨ ∃ y, i = .negMirror y) → exec i s = .next (afterFlags 8
      { g with a := 0 - g.a, f := aluFlags .sub 0 g.a false } s)) ∧
    exec .ccf s = .next (afterFlags 4
      { g with
        f := packF (flagS g.f) (flagZ g.f) (source.getLsbD 5) (flagC g.f) (source.getLsbD 3) (flagPV g.f) false
          (!flagC g.f) } s) ∧
    exec .scf s = .next (afterFlags 4
      { g with
        f := packF (flagS g.f) (flagZ g.f) (source.getLsbD 5) false (source.getLsbD 3) (flagPV g.f) false true } s)

/-- `DAA` after an addition or a subtraction of two decimal bytes gives the decimal result and the decimal carry or borrow
(R281, R282, R298). -/
def Obligations.DecimalAdjustIsDecimal : Prop :=
  ∀ (a b : Byte) (c : Bool) (m n : Nat), bcdValue a = some m → bcdValue b = some n →
    (let sum := add8 a b c
     let r := daa8 sum.1 sum.2
     bcdValue r.1 = some ((m + n + c.toNat) % 100) ∧ flagC r.2 = decide (m + n + c.toNat ≥ 100)) ∧
    let diff := sub8 a b c
    let r := daa8 diff.1 diff.2
    bcdValue r.1 = some ((100 + m - n - c.toNat) % 100) ∧ flagC r.2 = decide (m < n + c.toNat)

/-- The 16-bit additions, subtraction, increments and decrements (R330 to R337). -/
def Obligations.Arithmetic16 : Prop :=
  ∀ s : State,
    let g := s.regs
    let cin : Word := if flagC g.f then 1 else 0
    (∀ ss,
      let y := getRP ss g
      exec (.addHlSs ss) s = .next (afterFlags 11
        { setHL (g.hl + y) g with wz := g.hl + 1, f := addFlags16 g.hl y g.f } s) ∧
      exec (.adcHlSs ss) s = .next (afterFlags 15
        { setHL (g.hl + y + cin) g with wz := g.hl + 1, f := adcFlags16 g.hl y (flagC g.f) } s) ∧
      exec (.sbcHlSs ss) s = .next (afterFlags 15
        { setHL (g.hl - y - cin) g with wz := g.hl + 1, f := sbcFlags16 g.hl y (flagC g.f) } s)) ∧
    (∀ xy pp,
      let x := getXY xy g
      let y := getRPXY xy pp g
      exec (.addXyPp xy pp) s = .next (afterFlags 15
        { setXY xy (x + y) g with wz := x + 1, f := addFlags16 x y g.f } s)) ∧
    (∀ ss, exec (.incSs ss) s = .next (afterQuiet 6 (setRP ss (getRP ss g + 1) g) s)) ∧
    (∀ ss, exec (.decSs ss) s = .next (afterQuiet 6 (setRP ss (getRP ss g - 1) g) s)) ∧
    (∀ xy, exec (.incXy xy) s = .next (afterQuiet 10 (setXY xy (getXY xy g + 1) g) s)) ∧
    ∀ xy, exec (.decXy xy) s = .next (afterQuiet 10 (setXY xy (getXY xy g - 1) g) s)

/-! ## Rotates, shifts and bits -/

/-- The eight CB rotates and shifts in their four forms (R354 to R363), and the accumulator rotates, which keep S, Z and
P/V (R350 to R353). In the copying form the register gets the result even where the store is dropped. -/
def Obligations.RotatesAndShifts : Prop :=
  ∀ (op : RotOp) (s : State),
    let g := s.regs
    (∀ i, (i = .rlca ∧ op = .rlc ∨ i = .rla ∧ op = .rl ∨ i = .rrca ∧ op = .rrc ∨ i = .rra ∧ op = .rr) →
      let res := rotRes op g.a g.f
      exec i s = .next (afterFlags 4
        { g with
          a := res
          f := packF (flagS g.f) (flagZ g.f) (res.getLsbD 5) false (res.getLsbD 3) (flagPV g.f) false
            (rotValue op g.a.toNat (flagC g.f)).2 } s)) ∧
    (∀ r, exec (rotInstr op (.reg r)) s = .next (afterFlags 8
      { setR8 r (rotRes op (getR8 r g) g.f) g with f := rotFlags op (getR8 r g) g.f } s)) ∧
    (s.memWf →
      let v := memRead s g.hl
      ∃ u, StoresTo s u [(g.hl, rotRes op v g.f)] ∧
        exec (rotInstr op .memHl) s = .next (afterFlags 15 { g with f := rotFlags op v g.f } u)) ∧
    (s.memWf → ∀ xy d,
      let ea := getXY xy g + d.signExtend 16
      let v := memRead s ea
      let res := rotRes op v g.f
      ∃ u, StoresTo s u [(ea, res)] ∧
        exec (rotInstr op (.memXyd xy d)) s = .next (afterFlags 23 { g with wz := ea, f := rotFlags op v g.f } u) ∧
        ∀ r, exec (rotInstr op (.memXydR xy d r)) s = .next (afterFlags 23
          { setR8 r res g with wz := ea, f := rotFlags op v g.f } u))

/-- `RLD` and `RRD` (R364, R365): three digits turn through A and the byte at HL; the high digit of A stays. -/
def Obligations.DigitRotates : Prop :=
  ∀ s : State, s.memWf →
    let g := s.regs
    let m := memRead s g.hl
    let ah := g.a.toNat / 16
    let al := g.a.toNat % 16
    let mh := m.toNat / 16
    let ml := m.toNat % 16
    (∃ u, StoresTo s u [(g.hl, byte (16 * ml + al))] ∧
      exec .rld s = .next (afterFlags 18
        { g with a := byte (16 * ah + mh), f := readFlags (byte (16 * ah + mh)) g.f, wz := g.hl + 1 } u)) ∧
    ∃ u, StoresTo s u [(g.hl, byte (16 * al + mh))] ∧
      exec .rrd s = .next (afterFlags 18
        { g with a := byte (16 * ah + ml), f := readFlags (byte (16 * ah + ml)) g.f, wz := g.hl + 1 } u)

/-- `BIT` in its four forms (R366 to R368): Y and X come from the operand, from WZ, or from the effective address. Memory
and the named register of a mirror are not written. -/
def Obligations.BitTests : Prop :=
  ∀ (s : State) (bn : Fin 8),
    let g := s.regs
    (∀ r, exec (.bitBR bn r) s = .next (afterFlags 8
      { g with f := bitFlags bn (getR8 r g) (getR8 r g) g.f } s)) ∧
    exec (.bitBMemHl bn) s = .next (afterFlags 12
      { g with f := bitFlags bn (memRead s g.hl) (hiByte g.wz) g.f } s) ∧
    ∀ (i : Instr) (xy : XY) (d : Byte),
      (i = .bitBMemXyd bn xy d ∨ ∃ r, i = .bitBMemXydMirror bn xy d r) →
      let ea := getXY xy g + d.signExtend 16
      exec i s = .next (afterFlags 20
        { g with wz := ea, f := bitFlags bn (memRead s ea) (hiByte ea) g.f } s)

/-- `SET` and `RES` in their four forms (R363, R369, R370): one bit of the operand, no flag. -/
def Obligations.SetAndResetBits : Prop :=
  ∀ (s : State) (bn : Fin 8),
    let g := s.regs
    let put (on : Bool) (v : Byte) : Byte :=
      if v.getLsbD bn.val = on then v else if on then v + byte (2 ^ bn.val) else v - byte (2 ^ bn.val)
    (∀ r, exec (.setBR bn r) s = .next (afterQuiet 8 (setR8 r (put true (getR8 r g)) g) s) ∧
      exec (.resBR bn r) s = .next (afterQuiet 8 (setR8 r (put false (getR8 r g)) g) s)) ∧
    (s.memWf →
      (∃ u, StoresTo s u [(g.hl, put true (memRead s g.hl))] ∧
        exec (.setBMemHl bn) s = .next (afterQuiet 15 g u)) ∧
      ∃ u, StoresTo s u [(g.hl, put false (memRead s g.hl))] ∧
        exec (.resBMemHl bn) s = .next (afterQuiet 15 g u)) ∧
    (s.memWf → ∀ xy d,
      let ea := getXY xy g + d.signExtend 16
      let one := put true (memRead s ea)
      let zero := put false (memRead s ea)
      (∃ u, StoresTo s u [(ea, one)] ∧
        exec (.setBMemXyd bn xy d) s = .next (afterQuiet 23 { g with wz := ea } u) ∧
        ∀ r, exec (.setBMemXydR bn xy d r) s = .next (afterQuiet 23 { setR8 r one g with wz := ea } u)) ∧
      ∃ u, StoresTo s u [(ea, zero)] ∧
        exec (.resBMemXyd bn xy d) s = .next (afterQuiet 23 { g with wz := ea } u) ∧
        ∀ r, exec (.resBMemXydR bn xy d r) s = .next (afterQuiet 23 { setR8 r zero g with wz := ea } u))

/-! ## Control -/

/-- Jumps (R390 to R396), taken and not taken, and the conditions (R125): NZ and Z read Z, NC and C read C, PO and PE read
P/V, P and M read S. -/
def Obligations.JumpsAndConditions : Prop :=
  (∀ s z y h x pv n c : Bool,
    let f := packF s z y h x pv n c
    condHolds .nz f = !z ∧ condHolds .z f = z ∧ condHolds .nc f = !c ∧ condHolds .c f = c ∧
      condHolds .po f = !pv ∧ condHolds .pe f = pv ∧ condHolds .p f = !s ∧ condHolds .m f = s ∧
      cond4Holds .nz f = !z ∧ cond4Holds .z f = z ∧ cond4Holds .nc f = !c ∧ cond4Holds .c f = c) ∧
  ∀ s : State,
    let g := s.regs
    (∀ nn, exec (.jpNn nn) s = .next (afterQuiet 10 { g with pc := nn, wz := nn } s)) ∧
    (∀ cc nn, exec (.jpCcNn cc nn) s = .next (afterQuiet 10
      { g with pc := if condHolds cc g.f then nn else g.pc, wz := nn } s)) ∧
    (∀ e, exec (.jr e) s = .next (afterQuiet 12
      { g with pc := g.pc + e.signExtend 16, wz := g.pc + e.signExtend 16 } s)) ∧
    (∀ cc e,
      (cond4Holds cc g.f = true → exec (.jrCc cc e) s = .next (afterQuiet 12
        { g with pc := g.pc + e.signExtend 16, wz := g.pc + e.signExtend 16 } s)) ∧
      (cond4Holds cc g.f = false → exec (.jrCc cc e) s = .next (afterQuiet 7 g s))) ∧
    exec .jpHl s = .next (afterQuiet 4 { g with pc := g.hl } s) ∧
    (∀ xy, exec (.jpXy xy) s = .next (afterQuiet 8 { g with pc := getXY xy g } s)) ∧
    ∀ e,
      (g.b ≠ 1 → exec (.djnz e) s = .next (afterQuiet 13
        { g with b := g.b - 1, pc := g.pc + e.signExtend 16, wz := g.pc + e.signExtend 16 } s)) ∧
      (g.b = 1 → exec (.djnz e) s = .next (afterQuiet 8 { g with b := 0 } s))

/-- Calls and restarts (R397, R398, R403): the return address on the stack, PC and WZ at the target. -/
def Obligations.CallsAndRestarts : Prop :=
  ∀ s : State, s.memWf →
    let g := s.regs
    (∀ nn, ∃ u, StoresTo s u (pushStores g.sp g.pc) ∧
      exec (.callNn nn) s = .next (afterQuiet 17 { g with sp := g.sp - 2, pc := nn, wz := nn } u)) ∧
    (∀ cc nn,
      (condHolds cc g.f = true → ∃ u, StoresTo s u (pushStores g.sp g.pc) ∧
        exec (.callCcNn cc nn) s = .next (afterQuiet 17 { g with sp := g.sp - 2, pc := nn, wz := nn } u)) ∧
      (condHolds cc g.f = false → exec (.callCcNn cc nn) s = .next (afterQuiet 10 { g with wz := nn } s))) ∧
    ∀ p : Fin 8, ∃ u,
      let target := BitVec.ofNat 16 (8 * p.val)
      StoresTo s u (pushStores g.sp g.pc) ∧
        exec (.rst p) s = .next (afterQuiet 11 { g with sp := g.sp - 2, pc := target, wz := target } u)

/-- Returns (R399 to R402): PC and WZ from the stack; `RETI`, `RETN` and the mirrors also restore IFF1 from IFF2. -/
def Obligations.Returns : Prop :=
  ∀ s : State,
    let g := s.regs
    let top := joinBytes (memRead s (g.sp + 1)) (memRead s g.sp)
    let back := { g with sp := g.sp + 2, pc := top, wz := top }
    exec .ret s = .next (afterQuiet 10 back s) ∧
    (∀ cc, (condHolds cc g.f = true → exec (.retCc cc) s = .next (afterQuiet 11 back s)) ∧
      (condHolds cc g.f = false → exec (.retCc cc) s = .next (afterQuiet 5 g s))) ∧
    ∀ i, (i = .reti ∨ i = .retn ∨ ∃ y, i = .retnMirror y) →
      exec i s = .next (afterQuiet 14 back { s with ctl := { s.ctl with iff1 := s.ctl.iff2 } })

/-- `NOP`, `HALT`, `DI`, `EI`, `IM` and the undefined ED opcodes (R460 to R467). -/
def Obligations.CpuControl : Prop :=
  ∀ s : State,
    exec .nop s = .next (afterQuiet 4 s.regs s) ∧
    exec .halt s = .next (afterQuiet 4 s.regs { s with ctl := { s.ctl with halted := true } }) ∧
    exec .di s = .next (afterQuiet 4 s.regs { s with ctl := { s.ctl with iff1 := false, iff2 := false } }) ∧
    exec .ei s = .next (afterQuiet 4 s.regs
      { s with ctl := { s.ctl with iff1 := true, iff2 := true, eiBlock := true } }) ∧
    (∀ i m, (i = .im0 ∧ m = .im0 ∨ i = .im0Mirror4E ∧ m = .im0 ∨ i = .im0Mirror66 ∧ m = .im0 ∨
        i = .im0Mirror6E ∧ m = .im0 ∨ i = .im1 ∧ m = .im1 ∨ i = .im1Mirror ∧ m = .im1 ∨
        i = .im2 ∧ m = IntMode.im2 ∨ i = .im2Mirror ∧ m = .im2) →
      exec i s = .next (afterQuiet 8 s.regs { s with ctl := { s.ctl with im := m } })) ∧
    ∀ i, ((∃ x, i = .nopEd00 x) ∨ (∃ x, i = .nopEd77 x) ∨ (∃ x, i = .nopEd80 x) ∨ (∃ x y, i = .nopEdA4 x y) ∨
        (∃ x y, i = .nopEdAC x y) ∨ ∃ x, i = Instr.nopEdC0 x) →
      exec i s = .next (afterQuiet 8 s.regs s)

/-! ## Input and output -/

/-- `IN A,(n)`, `IN r,(C)` and `IN F,(C)` (R431 to R433), over the bus's answer at the stamp of R103. -/
def Obligations.InputInstructions : Prop :=
  ∀ s : State,
    let g := s.regs
    (∀ n,
      let port := joinBytes g.a n
      let r := ioRead port (s.clk.cycles + 7) s
      exec (.inAN n) s = .next (afterQuiet 11 { g with a := r.1, wz := port + 1 } r.2)) ∧
    let r := ioRead g.bc (s.clk.cycles + 8) s
    (∀ r8, exec (.inRC r8) s = .next (afterFlags 12
      { setR8 r8 r.1 g with f := readFlags r.1 g.f, wz := g.bc + 1 } r.2)) ∧
    exec .inFC s = .next (afterFlags 12 { g with f := readFlags r.1 g.f, wz := g.bc + 1 } r.2)

/-- `OUT (n),A`, `OUT (C),r` and `OUT (C),0` (R438 to R440), over the bus's action at the stamp of R103. -/
def Obligations.OutputInstructions : Prop :=
  ∀ s : State,
    let g := s.regs
    (∀ n, exec (.outNA n) s = .next (afterQuiet 11 { g with wz := joinBytes g.a (n + 1) }
      (ioWrite (joinBytes g.a n) g.a (s.clk.cycles + 7) s))) ∧
    (∀ r, exec (.outCR r) s = .next (afterQuiet 12 { g with wz := g.bc + 1 }
      (ioWrite g.bc (getR8 r g) (s.clk.cycles + 8) s))) ∧
    exec .outC0 s = .next (afterQuiet 12 { g with wz := g.bc + 1 } (ioWrite g.bc 0x00 (s.clk.cycles + 8) s))

/-- `INI`, `IND`, `INIR` and `INDR` (R430, R434 to R437): the port uses the old B. After an iteration that repeats, Y, X, H
and P/V are as the parameter `BLOCK_REPEAT_FLAGS` says, which is the model's treatment (log 4). -/
def Obligations.BlockInput : Prop :=
  ∀ s : State, s.memWf → ∀ (i : Instr) (step : Word) (repeats : Bool),
    (i = .ini ∧ step = 1 ∧ repeats = false ∨ i = .ind ∧ step = -1 ∧ repeats = false ∨
      i = .inir ∧ step = 1 ∧ repeats = true ∨ i = .indr ∧ step = -1 ∧ repeats = true) →
    let g := s.regs
    let r := ioRead g.bc (s.clk.cycles + 9) s
    let v := r.1
    let b := g.b - 1
    let k := v.toNat + (g.c + step.setWidth 8).toNat
    let f := packF (b.getLsbD 7) (b == 0) (b.getLsbD 5) (decide (k > 255)) (b.getLsbD 3)
      (evenParity (byte (k % 8) ^^^ b)) (v.getLsbD 7) (decide (k > 255))
    let g1 := { setHL (g.hl + step) g with b := b, wz := g.bc + step, f := f }
    ∃ u, StoresTo r.2 u [(g.hl, v)] ∧
      (repeats = true ∧ b ≠ 0 → ∃ f1 j,
        exec i s = .next (afterFlags 21 { g1 with pc := g.pc - 2, f := f1 } { u with freeIx := j }) ∧
        f1 &&& 0xC3 = f &&& 0xC3 ∧ (s.cfg.blockRepeatFlags = .asFinal → f1 = f ∧ j = s.freeIx)) ∧
      (¬(repeats = true ∧ b ≠ 0) → exec i s = .next (afterFlags 16 g1 u))

/-- `OUTI`, `OUTD`, `OTIR` and `OTDR` (R430, R441 to R444): the port uses the new B. After an iteration that repeats, Y, X,
H and P/V are as the parameter `BLOCK_REPEAT_FLAGS` says, which is the model's treatment (log 4). -/
def Obligations.BlockOutput : Prop :=
  ∀ (s : State) (i : Instr) (step : Word) (repeats : Bool),
    (i = .outi ∧ step = 1 ∧ repeats = false ∨ i = .outd ∧ step = -1 ∧ repeats = false ∨
      i = .otir ∧ step = 1 ∧ repeats = true ∨ i = .otdr ∧ step = -1 ∧ repeats = true) →
    let g := s.regs
    let v := memRead s g.hl
    let b := g.b - 1
    let port := joinBytes b g.c
    let hl := g.hl + step
    let k := v.toNat + (loByte hl).toNat
    let f := packF (b.getLsbD 7) (b == 0) (b.getLsbD 5) (decide (k > 255)) (b.getLsbD 3)
      (evenParity (byte (k % 8) ^^^ b)) (v.getLsbD 7) (decide (k > 255))
    let g1 := { setHL hl g with b := b, wz := port + step, f := f }
    let u := ioWrite port v (s.clk.cycles + 12) s
    (repeats = true ∧ b ≠ 0 → ∃ f1 j,
      exec i s = .next (afterFlags 21 { g1 with pc := g.pc - 2, f := f1 } { u with freeIx := j }) ∧
      f1 &&& 0xC3 = f &&& 0xC3 ∧ (s.cfg.blockRepeatFlags = .asFinal → f1 = f ∧ j = s.freeIx)) ∧
    (¬(repeats = true ∧ b ≠ 0) → exec i s = .next (afterFlags 16 g1 u))

/-- The keyboard port and VSYNC start (R517, R526): an even port reads the pressed keys of the selected rows as 0 and the
floating bus elsewhere, and starts VSYNC while the NMI generator is off and VSYNC is not on; an odd port reads the floating
bus. The line timer runs to the stamp first. -/
def Obligations.KeyboardPort : Prop :=
  ∀ (s : State) (port : Word) (stamp : Nat),
    let u := advanceTo stamp s
    let r := ioRead port stamp s
    (port.getLsbD 0 = true → r = (s.cfg.floatingBus, u)) ∧
    (port.getLsbD 0 = false →
      (∀ col : Nat, col < 8 →
        r.1.getLsbD col = (s.cfg.floatingBus.getLsbD col &&
          !(decide (col < 5) && (List.range 8).any fun row =>
            !port.getLsbD (8 + row) && s.ula.keys.getLsbD (5 * row + col)))) ∧
      (u.ula.nmiGenOn = false ∧ u.ula.vsync = false →
        r.2 = { u with ula := { u.ula with
          vsync := true, lcntr := 0, frameComplete := true, fbOut := u.ula.fb, fb := [] } }) ∧
      (¬(u.ula.nmiGenOn = false ∧ u.ula.vsync = false) → r.2 = u))

/-- Every I/O write ends a VSYNC in progress (R518), then switches the NMI generator: on with A0 = 0, off with A1 = 0, off
wins (R519). The line timer runs to the stamp first. -/
def Obligations.UlaWrite : Prop :=
  ∀ (s : State) (port : Word) (v : Byte) (stamp : Nat),
    let u := advanceTo stamp s
    ioWrite port v stamp s =
      { u with
        ula := { u.ula with
          vsync := false
          lineNo := if u.ula.vsync then 0 else u.ula.lineNo
          nmiGenOn := if port.getLsbD 1 = false then false else if port.getLsbD 0 = false then true else u.ula.nmiGenOn }
        busOut := some { port := port, value := v, stamp := stamp } }

/-! ## Prefix bytes -/

/-- What a step still does after a prefix byte (R137): the second byte by an M1, operand bytes by plain reads, and the
instruction they make. That these rows of the table have meanings is the model's choice (log 8). -/
def Obligations.PrefixBytes : Prop :=
  ∀ s : State,
    let pc := s.regs.pc
    let op := m1Byte s pc
    let b1 := memRead s (pc + 1)
    let b2 := memRead s (pc + 2)
    (∃ t, exec .prefixCb s = .next t ∧ exec (decodeCB op) (fetchM1 1 s) = .next t) ∧
    (∃ t, exec .prefixEd s = .next t ∧
      exec (decodeED op b1 b2).1 (skipBytes (decodeED op b1 b2).2 (fetchM1 1 s)) = .next t) ∧
    (∀ xy i, (xy = .ix ∧ i = .prefixDd ∨ xy = .iy ∧ i = .prefixFd) → ∃ t, exec i s = .next t ∧
      (op = 0xCB → exec (decodeXYCB xy b1 b2) (skipBytes 2 (fetchM1 1 s)) = .next t) ∧
      (op ≠ 0xCB → ∀ j n, decodeXY xy op b1 b2 = some (j, n) → exec j (skipBytes n (fetchM1 1 s)) = .next t) ∧
      (op ≠ 0xCB → decodeXY xy op b1 b2 = none → exec (.indexPrefixIgnored xy op) s = .next t)) ∧
    ∀ xy, ∃ t, exec (.prefixCbIndex xy) s = .next t ∧
      exec (decodeXYCB xy (memRead s pc) b1) (skipBytes 2 s) = .next t

/-- An ignored index prefix (R468): before another index prefix it is a step of its own, which blocks every interrupt at
the next boundary; otherwise it costs 4 T-states, clears Q, and the instruction that follows runs unchanged. -/
def Obligations.IgnoredIndexPrefix : Prop :=
  ∀ (s : State) (xy : XY) (o : Byte),
    ((o = 0xDD ∨ o = 0xFD) → exec (.indexPrefixIgnored xy o) s =
      .next (afterQuiet 4 s.regs { s with ctl := { s.ctl with prefixBlock := true } })) ∧
    (¬(o = 0xDD ∨ o = 0xFD) →
      let pc := s.regs.pc
      let b1 := if isPrefixByte o then m1Byte s (pc + 1) else memRead s (pc + 1)
      let d := decodeBytes o b1 (memRead s (pc + 2)) (memRead s (pc + 3))
      ∃ t, exec (.indexPrefixIgnored xy o) s = .next t ∧
        exec d.instr (fetchDecoded d (afterQuiet 4 s.regs s)) = .next t)

/-! ## Interrupts and steps -/

/-- NMI acceptance (R506, R507): 11 T-states, PC on the stack, PC and WZ at 0x0066, IFF1 cleared and IFF2 kept, `halted`
left, one M1-type cycle; then the end of the step. -/
def Obligations.NmiAcceptance : Prop :=
  ∀ s : State, s.memWf → s.ctl.nmiPending = true → s.ctl.prefixBlock = false →
    let g := s.regs
    ∃ u, StoresTo s u (pushStores g.sp g.pc) ∧
      step s = .next (finishStep { u with
        regs := { g with
          sp := g.sp - 2, pc := 0x0066, wz := 0x0066, r := (g.r &&& 0x80) ||| ((g.r + 1) &&& 0x7F) }
        ctl := { s.ctl with
          nmiPending := false, halted := false, iff1 := false, q := 0
          eiBlock := false, prefixBlock := false, ldair := false }
        clk := { cycles := s.clk.cycles + 11, stepT := 11, stepM1 := 1, stepR := g.r }
        busOut := none })

/-- Maskable acceptance in the three modes (R506, R508 to R510, R512): 13 or 19 T-states, the request latch and both
flip-flops cleared, P/V cleared when the last step was `LD A,I` or `LD A,R`; the entry is 0x0038, the `RST` address of the
data byte, or the word at `I : data` read after the push. With `HSYNC_SYNC_ON_INTACK` the line timer restarts first
(R520). -/
def Obligations.MaskableAcceptance : Prop :=
  ∀ s : State, s.memWf → stepKind s = .maskable →
    let g := s.regs
    let data := s.cfg.intAckData
    let v := if s.cfg.hsyncSyncOnIntAck then boundaryAt s.clk.cycles (advanceTo s.clk.cycles s) else s
    ∃ u, StoresTo v u (pushStores g.sp g.pc) ∧
      let entered (target : Word) (n : Nat) : Host.Outcome State Fault Refusal :=
        .next (finishStep { u with
          regs := { g with
            f := if s.ctl.ldair then g.f &&& 0xFB else g.f
            sp := g.sp - 2, pc := target, wz := target, r := (g.r &&& 0x80) ||| ((g.r + 1) &&& 0x7F) }
          ctl := { v.ctl with
            intReq := false, halted := false, iff1 := false, iff2 := false, q := 0
            eiBlock := false, prefixBlock := false, ldair := false }
          clk := { cycles := s.clk.cycles + n, stepT := n, stepM1 := 1, stepR := g.r }
          busOut := none })
      (s.ctl.im = .im1 → step s = entered 0x0038 13) ∧
      (s.ctl.im = .im0 → data &&& 0xC7 = 0xC7 → step s = entered ((data &&& 0x38).setWidth 16) 13) ∧
      (s.ctl.im = .im2 →
        let vec := joinBytes g.i data
        step s = entered (joinBytes (memRead u (vec + 1)) (memRead u vec)) 19)

/-- The only stop of the machine (R500, R509, R530): a mode 0 acceptance whose data byte is no `RST` is refused, and every
other step answers a next state. That the refusal is the answer of the whole step is the model's reading (log 11). -/
def Obligations.StepStopsOnlyInMode0 : Prop :=
  ∀ s : State,
    (stopsAtIm0 s = true → step s = .refused (.im0DataNotRst s.cfg.intAckData)) ∧
    (stopsAtIm0 s = false → ∃ t, step s = .next t)

/-- Sampling (R56, R57, R59, R504): an NMI comes before a maskable request; `EI` holds off the maskable one at the next
boundary, an ignored prefix both; and a request that is not accepted stays pending through any step. -/
def Obligations.RequestsAreSampledInOrder : Prop :=
  ∀ s : State,
    (s.ctl.nmiPending = true → s.ctl.prefixBlock = false → stepKind s = .nmi) ∧
    (s.ctl.eiBlock = true ∨ s.ctl.iff1 = false → stepKind s ≠ .maskable) ∧
    (s.ctl.prefixBlock = true → stepKind s ≠ .nmi ∧ stepKind s ≠ .maskable) ∧
    ((s.ctl.intReq = true ∨ s.ctl.intLine = true) → s.ctl.nmiPending = false → s.ctl.iff1 = true →
      s.ctl.eiBlock = false → s.ctl.prefixBlock = false → stepKind s = .maskable) ∧
    ∀ t, step s = .next t →
      (stepKind s ≠ .maskable → t.ctl.intReq = s.ctl.intReq) ∧
      (stepKind s = .maskable → t.ctl.intReq = false) ∧
      (stepKind s ≠ .nmi → s.ctl.nmiPending = true → t.ctl.nmiPending = true)

/-- A halted machine that accepts nothing (R55, R511): 4 T-states, R counts, PC and every other register stay, it stays
halted. And the program-level end of a run (R608): which boundaries are one; from one on, where /INT is asserted only if it
is wired to A6 (part of the invariant that every step keeps), the machine performs halt cycles only and every boundary is
one; and a program run of at most `n` steps ends exactly at the first such boundary. That a run is given a number of steps
is the model's choice (log 24). -/
def Obligations.HaltCycles : Prop :=
  (∀ s : State, stepKind s = .haltCycle →
    step s = .next (finishStep { s with
      regs := { s.regs with r := (s.regs.r &&& 0x80) ||| ((s.regs.r + 1) &&& 0x7F) }
      ctl := { s.ctl with halted := true, q := 0, eiBlock := false, prefixBlock := false, ldair := false }
      clk := { cycles := s.clk.cycles + 4, stepT := 4, stepM1 := 1, stepR := s.regs.r }
      busOut := none })) ∧
    (∀ s : State, programEnded s = true ↔
      s.ctl.halted = true ∧ (s.ctl.iff1 = false ∨ s.ctl.intReq = false ∧ s.cfg.intFromA6 = false) ∧
        s.ctl.nmiPending = false ∧ s.ula.nmiGenOn = false) ∧
    (∀ s : State, programEnded s = true → (s.ctl.intLine = true → s.cfg.intFromA6 = true) →
      stepKind s = .haltCycle ∧ ∃ t, step s = .next t ∧ programEnded t = true ∧
        (t.ctl.intLine = true → t.cfg.intFromA6 = true)) ∧
    ∀ (n : Nat) (s t : State), runProgram n s = .ended t ↔
      ∃ k, k ≤ n ∧ stepsTo k s t ∧ programEnded t = true ∧
        ∀ j u, j < k → stepsTo j s u → programEnded u = false

/-- `RETN` right after an NMI acceptance takes the machine back: PC, SP, and IFF1 as IFF2 had kept it (R402, R507,
R513). -/
def Obligations.NmiThenRetn : Prop :=
  ∀ s t : State, s.memWf → (s.regs.sp - 1).getLsbD 14 = true → (s.regs.sp - 2).getLsbD 14 = true →
    acceptNmi s = .next t →
    ∃ u, exec .retn t = .next u ∧ u.regs.pc = s.regs.pc ∧ u.regs.sp = s.regs.sp ∧
      u.ctl.iff1 = s.ctl.iff2 ∧ u.ctl.iff2 = s.ctl.iff2

/-- /INT from A6 (R516): the level after a step is set exactly when the step consisted of M1 cycles only and R had bit 6
clear before its last increment; `Rlast` is what each M1-type cycle records. -/
def Obligations.IntLineFromA6 : Prop :=
  (∀ s t : State, step s = .next t →
    (t.ctl.intLine = true ↔
      s.cfg.intFromA6 = true ∧ t.clk.stepT = 4 * t.clk.stepM1 ∧ t.clk.stepR.getLsbD 6 = false)) ∧
    ∀ (k : Nat) (s : State), (fetchM1 k s).clk.stepR = s.regs.r ∧ (refreshM1 s).clk.stepR = s.regs.r

/-- The line timer (R520): `AdvanceTo(s)` and the end of a step are the two loops of the rule, over its `Boundary`;
the model computes each in one go (log 19). -/
def Obligations.LineTimer : Prop :=
  (∀ (n : Nat) (s : State), boundaryAt n s = { s with
    ula := { s.ula with
      lineStart := n, nextLine := n + 207, lineNo := s.ula.lineNo + 1
      lcntr := if s.ula.vsync then 0 else s.ula.lcntr + 1 }
    ctl := { s.ctl with nmiPending := s.ctl.nmiPending || s.ula.nmiGenOn } }) ∧
  (∀ (n : Nat) (s : State),
    advanceTo n s = if s.ula.nextLine ≤ n then advanceTo n (boundaryAt s.ula.nextLine s) else s) ∧
  ∀ (n : Nat) (s : State),
    advanceBefore n s = if s.ula.nextLine < n then advanceBefore n (boundaryAt s.ula.nextLine s) else s

/-- The video observer (R522 to R525): an M1 with A15 = 1 of a byte with bit 6 clear reaches the CPU as 0x00, and outside
VSYNC draws the eight pixels of the character's row, two to a T-state from the start of the line; every other pixel stays,
and any other M1 passes its byte and draws nothing. -/
def Obligations.VideoFetchDraws : Prop :=
  ∀ (s : State) (addr : Word) (raw : Byte) (stamp : Nat), Pixels.wf s.ula.fb →
    let u := advanceTo stamp s
    let t := videoFetch addr raw stamp s
    (¬(addr.getLsbD 15 = true ∧ raw.getLsbD 6 = false) → videoByte addr raw = raw ∧ t = u) ∧
    (addr.getLsbD 15 = true → raw.getLsbD 6 = false →
      videoByte addr raw = 0x00 ∧
      (u.ula.vsync = true → t = u) ∧
      (u.ula.vsync = false →
        t = { u with ula := { u.ula with fb := t.ula.fb } } ∧
        let pa : Word := (s.regs.i.setWidth 16 &&& 0xFE) <<< 8 ||| (raw.setWidth 16 &&& 0x3F) <<< 3 |||
          u.ula.lcntr.setWidth 16
        let x0 := 2 * (stamp - u.ula.lineStart)
        ∀ x y, x < 414 → y < 312 →
          Pixels.get t.ula.fb (y * 414 + x) =
            if y = u.ula.lineNo ∧ x0 ≤ x ∧ x < x0 + 8 then
              (memRead s pa).getLsbD (7 - (x - x0)) ^^ raw.getLsbD 7
            else Pixels.get s.ula.fb (y * 414 + x)))

/-- `reset()` (R600, R603): every register and control bit, the ULA's latches and pictures; RAM cleared only with
`RESET_CLEARS_RAM`; ROM, `cycles`, the line timer's times, the keys and the frame counter stay. -/
def Obligations.ResetState : Prop :=
  ∀ s : State,
    let t := hostReset s
    let v := s.cfg.resetRegs
    t.regs.pc = 0 ∧ t.regs.i = 0 ∧ t.regs.r = 0 ∧ t.regs.af = v.af ∧ t.regs.bc = v.bc ∧ t.regs.de = v.de ∧
      t.regs.hl = v.hl ∧ t.regs.afAlt = v.afAlt ∧ t.regs.bcAlt = v.bcAlt ∧ t.regs.deAlt = v.deAlt ∧
      t.regs.hlAlt = v.hlAlt ∧ t.regs.ix = v.ix ∧ t.regs.iy = v.iy ∧ t.regs.sp = v.sp ∧ t.regs.wz = v.wz ∧
    t.ctl = { iff1 := false, iff2 := false, im := .im0, q := 0, halted := false, eiBlock := false, prefixBlock := false,
              ldair := false, nmiPending := false, intReq := false, intLine := false } ∧
    t.ula = { s.ula with
      nmiGenOn := false, vsync := false, frameComplete := false, lcntr := 0, lineNo := 0, fb := [], fbOut := [] } ∧
    t.rom = s.rom ∧ t.clk.cycles = s.clk.cycles ∧ t.frameCounter = s.frameCounter ∧ t.cfg = s.cfg ∧
    (s.cfg.resetClearsRam = true → ∀ a : Word, a.getLsbD 14 = true → memRead t a = 0x00) ∧
    (s.cfg.resetClearsRam = false → t.ram = s.ram)

/-- The machine right after construction (R602, R604, R68): the reset values of the registers, of the control bits and of
the ULA, cycle 0, the line timer at its first line, no key pressed, every ROM byte 0x00 and every RAM byte `RAM_POWER_ON_FILL`. That `State.reset` is that state for the default parameters
is the model's choice (log 1, log 3, log 12). -/
def Obligations.ConstructionState : Prop :=
  ∀ cfg : Config,
    let s := State.construct cfg
    s.regs = (hostReset s).regs ∧ s.ctl = (hostReset s).ctl ∧ s.clk.cycles = 0 ∧
      s.ula = { nmiGenOn := false, vsync := false, lcntr := 0, lineNo := 0, lineStart := 0, nextLine := 207,
                frameComplete := false, fb := [], fbOut := [], keys := 0 } ∧
      s.frameCounter = 0 ∧ s.cfg = cfg ∧
      (∀ a : Word, memRead s a = if a.getLsbD 14 then cfg.ramPowerOnFill else 0x00) ∧
      State.reset = State.construct Config.default

/-- `loadImage` (R531): an image that does not fit is refused; one that fits writes past the ROM protection, and a later
byte wins over an earlier one of the same cell. -/
def Obligations.LoadImage : Prop :=
  ∀ (s : State) (bytes : List Byte) (base : Nat),
    (base ≥ 65536 ∨ base + bytes.length > 65536 → loadImage bytes base s = .error .configurationError) ∧
    (base < 65536 → base + bytes.length ≤ 65536 → s.memWf →
      ∃ t, loadImage bytes base s = .ok t ∧ t = { s with rom := t.rom, ram := t.ram } ∧
        ∀ a : Word, memRead t a =
          ((List.range bytes.length).reverse.find? fun k =>
            place s.cfg (BitVec.ofNat 16 (base + k)) == place s.cfg a).elim (memRead s a) fun k => bytes.getD k 0)

/-! ## Whole-machine rules -/

/-- No instruction traps, faults or is refused (R500, R530): every instruction completes in every state. -/
def Obligations.EveryInstructionCompletes : Prop :=
  ∀ (i : Instr) (s : State), ∃ t, exec i s = .next t

/-- Which instructions write flags (R47), and what Q becomes (R54). `POP AF` and `EX AF,AF'` replace F but leave Q
at 0. -/
def Obligations.FlagWriters : Prop :=
  ∀ (i : Instr) (s t : State), isPrefixRow i = false → exec i s = .next t →
    t.ctl.q = (if writesFlags i then t.regs.f else 0x00) ∧
    (writesFlags i = false → i ≠ .exAfAf → i ≠ .popQq .af → t.regs.f = s.regs.f)

/-- Which instructions write the special registers and the control bits (R42, R49 to R52, R55 to R60). -/
def Obligations.SpecialRegisterWriters : Prop :=
  ∀ (i : Instr) (s t : State), isPrefixRow i = false → exec i s = .next t →
    (i ≠ .ldIA → t.regs.i = s.regs.i) ∧ (i ≠ .ldRA → t.regs.r = s.regs.r) ∧
    (i ≠ .di → i ≠ .ei → t.ctl.iff2 = s.ctl.iff2) ∧
    (i ≠ .di → i ≠ .ei → i ≠ .reti → i ≠ .retn → (∀ y, i ≠ .retnMirror y) → t.ctl.iff1 = s.ctl.iff1) ∧
    (i ∉ [.im0, .im0Mirror4E, .im0Mirror66, .im0Mirror6E, .im1, .im1Mirror, .im2, .im2Mirror] →
      t.ctl.im = s.ctl.im) ∧
    (i ≠ .halt → t.ctl.halted = s.ctl.halted) ∧ (i ≠ .ei → t.ctl.eiBlock = s.ctl.eiBlock) ∧
    (i ≠ .ldAI → i ≠ .ldAR → t.ctl.ldair = s.ctl.ldair) ∧ t.ctl.prefixBlock = s.ctl.prefixBlock ∧
    t.ctl.intReq = s.ctl.intReq ∧
    (i ≠ .exAfAf → t.regs.afAlt = s.regs.afAlt) ∧
    (i ≠ .exx → t.regs.bcAlt = s.regs.bcAlt ∧ t.regs.deAlt = s.regs.deAlt ∧ t.regs.hlAlt = s.regs.hlAlt)

/-- The T-states of every instruction, taken or not, repeating or final, are those of the opcode table (R617, R618). -/
def Obligations.TStatesTable : Prop :=
  ∀ (i : Instr) (s t : State), isPrefixRow i = false → exec i s = .next t →
    t.clk.cycles = s.clk.cycles + tStates i s ∧ t.clk.stepT = s.clk.stepT + tStates i s

/-- No step writes ROM, the parameters, the keys or the frame counter (R66, R67); the clock grows by exactly the step's
T-states, at least 4 and at most 25 (R61, R618). -/
def Obligations.StepFrameAndClock : Prop :=
  ∀ s t : State, step s = .next t →
    t.rom = s.rom ∧ t.cfg = s.cfg ∧ t.ula.keys = s.ula.keys ∧ t.frameCounter = s.frameCounter ∧
    t.clk.cycles = s.clk.cycles + t.clk.stepT ∧ 4 ≤ t.clk.stepT ∧ t.clk.stepT ≤ 25

/-- Every step keeps the invariant: memory and pictures stay canonical, the line timer stays at its line (R520, R524), the
row counter is held during VSYNC (R521), IFF1 implies IFF2 (R51), Q is 0 or F (R54), `ei_block` implies IFF1 (R56), /INT is
asserted only where it is wired to A6 (R516), the parameters stay legal (R97). The canonical forms are the model's (log 2, log 16). -/
def Obligations.StepKeepsInvariant : Prop :=
  ∀ s t : State, s.Inv → step s = .next t → t.Inv

/-- The invariant holds at reset (R600, R602); the parameters' defaults there are the model's choice (log 3, log 12). -/
def Obligations.InvariantAtReset : Prop := State.reset.Inv
end

