-- ==== Sys2Proof/Laws/Flags.lean ====
section
/-! SUPPORT. The flag byte: each flag of a packed byte, and a byte packed again from its flags. -/

namespace Sys2Proof.Machine

section
variable (s z y h x pv n c : Bool)

@[simp] theorem flagS_packF : flagS (packF s z y h x pv n c) = s := by
  revert s z y h x pv n c; decide
@[simp] theorem flagZ_packF : flagZ (packF s z y h x pv n c) = z := by
  revert s z y h x pv n c; decide
@[simp] theorem flagY_packF : flagY (packF s z y h x pv n c) = y := by
  revert s z y h x pv n c; decide
@[simp] theorem flagH_packF : flagH (packF s z y h x pv n c) = h := by
  revert s z y h x pv n c; decide
@[simp] theorem flagX_packF : flagX (packF s z y h x pv n c) = x := by
  revert s z y h x pv n c; decide
@[simp] theorem flagPV_packF : flagPV (packF s z y h x pv n c) = pv := by
  revert s z y h x pv n c; decide
@[simp] theorem flagN_packF : flagN (packF s z y h x pv n c) = n := by
  revert s z y h x pv n c; decide
@[simp] theorem flagC_packF : flagC (packF s z y h x pv n c) = c := by
  revert s z y h x pv n c; decide

end

/-- A byte is packed from its own flags (R46). -/
theorem packF_flags (f : Byte) :
    packF (flagS f) (flagZ f) (flagY f) (flagH f) (flagX f) (flagPV f) (flagN f) (flagC f) = f := by
  revert f; decide

end Sys2Proof.Machine
end

