-- ==== Sys2Proof/Laws/State.lean ====
section
/-! SUPPORT. What each update of the state leaves in each field: one lemma per field per update, so that no proof has to
unfold a record update. -/

namespace Sys2Proof.Machine

/-! ### `State.withRegs` -/

@[simp] theorem State.withRegs_regs (s : State) (g : Regs) : (s.withRegs g).regs = g := rfl
@[simp] theorem State.withRegs_ctl (s : State) (g : Regs) : (s.withRegs g).ctl = s.ctl := rfl
@[simp] theorem State.withRegs_clk (s : State) (g : Regs) : (s.withRegs g).clk = s.clk := rfl
@[simp] theorem State.withRegs_ula (s : State) (g : Regs) : (s.withRegs g).ula = s.ula := rfl
@[simp] theorem State.withRegs_rom (s : State) (g : Regs) : (s.withRegs g).rom = s.rom := rfl
@[simp] theorem State.withRegs_ram (s : State) (g : Regs) : (s.withRegs g).ram = s.ram := rfl
@[simp] theorem State.withRegs_busOut (s : State) (g : Regs) : (s.withRegs g).busOut = s.busOut := rfl
@[simp] theorem State.withRegs_frameCounter (s : State) (g : Regs) : (s.withRegs g).frameCounter = s.frameCounter := rfl
@[simp] theorem State.withRegs_freeIx (s : State) (g : Regs) : (s.withRegs g).freeIx = s.freeIx := rfl
@[simp] theorem State.withRegs_cfg (s : State) (g : Regs) : (s.withRegs g).cfg = s.cfg := rfl

/-! ### `setQ` -/

@[simp] theorem setQ_ctl_q (q : Byte) (s : State) : (setQ q s).ctl.q = q := rfl
@[simp] theorem setQ_ctl_iff1 (q : Byte) (s : State) : (setQ q s).ctl.iff1 = s.ctl.iff1 := rfl
@[simp] theorem setQ_ctl_iff2 (q : Byte) (s : State) : (setQ q s).ctl.iff2 = s.ctl.iff2 := rfl
@[simp] theorem setQ_ctl_im (q : Byte) (s : State) : (setQ q s).ctl.im = s.ctl.im := rfl
@[simp] theorem setQ_ctl_halted (q : Byte) (s : State) : (setQ q s).ctl.halted = s.ctl.halted := rfl
@[simp] theorem setQ_ctl_eiBlock (q : Byte) (s : State) : (setQ q s).ctl.eiBlock = s.ctl.eiBlock := rfl
@[simp] theorem setQ_ctl_prefixBlock (q : Byte) (s : State) : (setQ q s).ctl.prefixBlock = s.ctl.prefixBlock := rfl
@[simp] theorem setQ_ctl_ldair (q : Byte) (s : State) : (setQ q s).ctl.ldair = s.ctl.ldair := rfl
@[simp] theorem setQ_ctl_nmiPending (q : Byte) (s : State) : (setQ q s).ctl.nmiPending = s.ctl.nmiPending := rfl
@[simp] theorem setQ_ctl_intReq (q : Byte) (s : State) : (setQ q s).ctl.intReq = s.ctl.intReq := rfl
@[simp] theorem setQ_ctl_intLine (q : Byte) (s : State) : (setQ q s).ctl.intLine = s.ctl.intLine := rfl
@[simp] theorem setQ_regs (q : Byte) (s : State) : (setQ q s).regs = s.regs := rfl
@[simp] theorem setQ_clk (q : Byte) (s : State) : (setQ q s).clk = s.clk := rfl
@[simp] theorem setQ_ula (q : Byte) (s : State) : (setQ q s).ula = s.ula := rfl
@[simp] theorem setQ_rom (q : Byte) (s : State) : (setQ q s).rom = s.rom := rfl
@[simp] theorem setQ_ram (q : Byte) (s : State) : (setQ q s).ram = s.ram := rfl
@[simp] theorem setQ_busOut (q : Byte) (s : State) : (setQ q s).busOut = s.busOut := rfl
@[simp] theorem setQ_frameCounter (q : Byte) (s : State) : (setQ q s).frameCounter = s.frameCounter := rfl
@[simp] theorem setQ_freeIx (q : Byte) (s : State) : (setQ q s).freeIx = s.freeIx := rfl
@[simp] theorem setQ_cfg (q : Byte) (s : State) : (setQ q s).cfg = s.cfg := rfl

/-! ### `tick` -/

@[simp] theorem tick_clk_cycles (n : Nat) (s : State) : (tick n s).clk.cycles = s.clk.cycles + n := rfl
@[simp] theorem tick_clk_stepT (n : Nat) (s : State) : (tick n s).clk.stepT = s.clk.stepT + n := rfl
@[simp] theorem tick_clk_stepM1 (n : Nat) (s : State) : (tick n s).clk.stepM1 = s.clk.stepM1 := rfl
@[simp] theorem tick_clk_stepR (n : Nat) (s : State) : (tick n s).clk.stepR = s.clk.stepR := rfl
@[simp] theorem tick_regs (n : Nat) (s : State) : (tick n s).regs = s.regs := rfl
@[simp] theorem tick_ctl (n : Nat) (s : State) : (tick n s).ctl = s.ctl := rfl
@[simp] theorem tick_ula (n : Nat) (s : State) : (tick n s).ula = s.ula := rfl
@[simp] theorem tick_rom (n : Nat) (s : State) : (tick n s).rom = s.rom := rfl
@[simp] theorem tick_ram (n : Nat) (s : State) : (tick n s).ram = s.ram := rfl
@[simp] theorem tick_busOut (n : Nat) (s : State) : (tick n s).busOut = s.busOut := rfl
@[simp] theorem tick_frameCounter (n : Nat) (s : State) : (tick n s).frameCounter = s.frameCounter := rfl
@[simp] theorem tick_freeIx (n : Nat) (s : State) : (tick n s).freeIx = s.freeIx := rfl
@[simp] theorem tick_cfg (n : Nat) (s : State) : (tick n s).cfg = s.cfg := rfl

/-! ### `setWZ` -/

@[simp] theorem setWZ_regs (v : Word) (s : State) : (setWZ v s).regs = { s.regs with wz := v } := rfl
@[simp] theorem setWZ_ctl (v : Word) (s : State) : (setWZ v s).ctl = s.ctl := rfl
@[simp] theorem setWZ_clk (v : Word) (s : State) : (setWZ v s).clk = s.clk := rfl
@[simp] theorem setWZ_ula (v : Word) (s : State) : (setWZ v s).ula = s.ula := rfl
@[simp] theorem setWZ_rom (v : Word) (s : State) : (setWZ v s).rom = s.rom := rfl
@[simp] theorem setWZ_ram (v : Word) (s : State) : (setWZ v s).ram = s.ram := rfl
@[simp] theorem setWZ_busOut (v : Word) (s : State) : (setWZ v s).busOut = s.busOut := rfl
@[simp] theorem setWZ_frameCounter (v : Word) (s : State) : (setWZ v s).frameCounter = s.frameCounter := rfl
@[simp] theorem setWZ_freeIx (v : Word) (s : State) : (setWZ v s).freeIx = s.freeIx := rfl
@[simp] theorem setWZ_cfg (v : Word) (s : State) : (setWZ v s).cfg = s.cfg := rfl

/-! ### `jumpTo` -/

@[simp] theorem jumpTo_regs (v : Word) (s : State) : (jumpTo v s).regs = { s.regs with pc := v } := rfl
@[simp] theorem jumpTo_ctl (v : Word) (s : State) : (jumpTo v s).ctl = s.ctl := rfl
@[simp] theorem jumpTo_clk (v : Word) (s : State) : (jumpTo v s).clk = s.clk := rfl
@[simp] theorem jumpTo_ula (v : Word) (s : State) : (jumpTo v s).ula = s.ula := rfl
@[simp] theorem jumpTo_rom (v : Word) (s : State) : (jumpTo v s).rom = s.rom := rfl
@[simp] theorem jumpTo_ram (v : Word) (s : State) : (jumpTo v s).ram = s.ram := rfl
@[simp] theorem jumpTo_busOut (v : Word) (s : State) : (jumpTo v s).busOut = s.busOut := rfl
@[simp] theorem jumpTo_frameCounter (v : Word) (s : State) : (jumpTo v s).frameCounter = s.frameCounter := rfl
@[simp] theorem jumpTo_freeIx (v : Word) (s : State) : (jumpTo v s).freeIx = s.freeIx := rfl
@[simp] theorem jumpTo_cfg (v : Word) (s : State) : (jumpTo v s).cfg = s.cfg := rfl

/-! ### `jumpLatched` -/

@[simp] theorem jumpLatched_regs (v : Word) (s : State) : (jumpLatched v s).regs = { s.regs with pc := v, wz := v } := rfl
@[simp] theorem jumpLatched_ctl (v : Word) (s : State) : (jumpLatched v s).ctl = s.ctl := rfl
@[simp] theorem jumpLatched_clk (v : Word) (s : State) : (jumpLatched v s).clk = s.clk := rfl
@[simp] theorem jumpLatched_ula (v : Word) (s : State) : (jumpLatched v s).ula = s.ula := rfl
@[simp] theorem jumpLatched_rom (v : Word) (s : State) : (jumpLatched v s).rom = s.rom := rfl
@[simp] theorem jumpLatched_ram (v : Word) (s : State) : (jumpLatched v s).ram = s.ram := rfl
@[simp] theorem jumpLatched_busOut (v : Word) (s : State) : (jumpLatched v s).busOut = s.busOut := rfl
@[simp] theorem jumpLatched_frameCounter (v : Word) (s : State) : (jumpLatched v s).frameCounter = s.frameCounter := rfl
@[simp] theorem jumpLatched_freeIx (v : Word) (s : State) : (jumpLatched v s).freeIx = s.freeIx := rfl
@[simp] theorem jumpLatched_cfg (v : Word) (s : State) : (jumpLatched v s).cfg = s.cfg := rfl

/-! ### `putAF` -/

@[simp] theorem putAF_regs (x : Byte × Byte) (s : State) : (putAF x s).regs = { s.regs with a := x.1, f := x.2 } := rfl
@[simp] theorem putAF_ctl (x : Byte × Byte) (s : State) : (putAF x s).ctl = s.ctl := rfl
@[simp] theorem putAF_clk (x : Byte × Byte) (s : State) : (putAF x s).clk = s.clk := rfl
@[simp] theorem putAF_ula (x : Byte × Byte) (s : State) : (putAF x s).ula = s.ula := rfl
@[simp] theorem putAF_rom (x : Byte × Byte) (s : State) : (putAF x s).rom = s.rom := rfl
@[simp] theorem putAF_ram (x : Byte × Byte) (s : State) : (putAF x s).ram = s.ram := rfl
@[simp] theorem putAF_busOut (x : Byte × Byte) (s : State) : (putAF x s).busOut = s.busOut := rfl
@[simp] theorem putAF_frameCounter (x : Byte × Byte) (s : State) : (putAF x s).frameCounter = s.frameCounter := rfl
@[simp] theorem putAF_freeIx (x : Byte × Byte) (s : State) : (putAF x s).freeIx = s.freeIx := rfl
@[simp] theorem putAF_cfg (x : Byte × Byte) (s : State) : (putAF x s).cfg = s.cfg := rfl

/-! ### `putF` -/

@[simp] theorem putF_regs (v : Byte) (s : State) : (putF v s).regs = { s.regs with f := v } := rfl
@[simp] theorem putF_ctl (v : Byte) (s : State) : (putF v s).ctl = s.ctl := rfl
@[simp] theorem putF_clk (v : Byte) (s : State) : (putF v s).clk = s.clk := rfl
@[simp] theorem putF_ula (v : Byte) (s : State) : (putF v s).ula = s.ula := rfl
@[simp] theorem putF_rom (v : Byte) (s : State) : (putF v s).rom = s.rom := rfl
@[simp] theorem putF_ram (v : Byte) (s : State) : (putF v s).ram = s.ram := rfl
@[simp] theorem putF_busOut (v : Byte) (s : State) : (putF v s).busOut = s.busOut := rfl
@[simp] theorem putF_frameCounter (v : Byte) (s : State) : (putF v s).frameCounter = s.frameCounter := rfl
@[simp] theorem putF_freeIx (v : Byte) (s : State) : (putF v s).freeIx = s.freeIx := rfl
@[simp] theorem putF_cfg (v : Byte) (s : State) : (putF v s).cfg = s.cfg := rfl

/-! ### `putR8` -/

@[simp] theorem putR8_regs (r : Reg8) (x : Byte × Byte) (s : State) : (putR8 r x s).regs = { setR8 r x.1 s.regs with f := x.2 } := rfl
@[simp] theorem putR8_ctl (r : Reg8) (x : Byte × Byte) (s : State) : (putR8 r x s).ctl = s.ctl := rfl
@[simp] theorem putR8_clk (r : Reg8) (x : Byte × Byte) (s : State) : (putR8 r x s).clk = s.clk := rfl
@[simp] theorem putR8_ula (r : Reg8) (x : Byte × Byte) (s : State) : (putR8 r x s).ula = s.ula := rfl
@[simp] theorem putR8_rom (r : Reg8) (x : Byte × Byte) (s : State) : (putR8 r x s).rom = s.rom := rfl
@[simp] theorem putR8_ram (r : Reg8) (x : Byte × Byte) (s : State) : (putR8 r x s).ram = s.ram := rfl
@[simp] theorem putR8_busOut (r : Reg8) (x : Byte × Byte) (s : State) : (putR8 r x s).busOut = s.busOut := rfl
@[simp] theorem putR8_frameCounter (r : Reg8) (x : Byte × Byte) (s : State) : (putR8 r x s).frameCounter = s.frameCounter := rfl
@[simp] theorem putR8_freeIx (r : Reg8) (x : Byte × Byte) (s : State) : (putR8 r x s).freeIx = s.freeIx := rfl
@[simp] theorem putR8_cfg (r : Reg8) (x : Byte × Byte) (s : State) : (putR8 r x s).cfg = s.cfg := rfl

/-! ### `putHalf` -/

@[simp] theorem putHalf_regs (xy : XY) (h : Half) (x : Byte × Byte) (s : State) : (putHalf xy h x s).regs = { setHalf xy h x.1 s.regs with f := x.2 } := rfl
@[simp] theorem putHalf_ctl (xy : XY) (h : Half) (x : Byte × Byte) (s : State) : (putHalf xy h x s).ctl = s.ctl := rfl
@[simp] theorem putHalf_clk (xy : XY) (h : Half) (x : Byte × Byte) (s : State) : (putHalf xy h x s).clk = s.clk := rfl
@[simp] theorem putHalf_ula (xy : XY) (h : Half) (x : Byte × Byte) (s : State) : (putHalf xy h x s).ula = s.ula := rfl
@[simp] theorem putHalf_rom (xy : XY) (h : Half) (x : Byte × Byte) (s : State) : (putHalf xy h x s).rom = s.rom := rfl
@[simp] theorem putHalf_ram (xy : XY) (h : Half) (x : Byte × Byte) (s : State) : (putHalf xy h x s).ram = s.ram := rfl
@[simp] theorem putHalf_busOut (xy : XY) (h : Half) (x : Byte × Byte) (s : State) : (putHalf xy h x s).busOut = s.busOut := rfl
@[simp] theorem putHalf_frameCounter (xy : XY) (h : Half) (x : Byte × Byte) (s : State) : (putHalf xy h x s).frameCounter = s.frameCounter := rfl
@[simp] theorem putHalf_freeIx (xy : XY) (h : Half) (x : Byte × Byte) (s : State) : (putHalf xy h x s).freeIx = s.freeIx := rfl
@[simp] theorem putHalf_cfg (xy : XY) (h : Half) (x : Byte × Byte) (s : State) : (putHalf xy h x s).cfg = s.cfg := rfl

/-! ### `latchEA` -/

@[simp] theorem latchEA_regs (xy : XY) (d : Byte) (s : State) : (latchEA xy d s).regs = { s.regs with wz := indexedAddr xy d s.regs } := rfl
@[simp] theorem latchEA_ctl (xy : XY) (d : Byte) (s : State) : (latchEA xy d s).ctl = s.ctl := rfl
@[simp] theorem latchEA_clk (xy : XY) (d : Byte) (s : State) : (latchEA xy d s).clk = s.clk := rfl
@[simp] theorem latchEA_ula (xy : XY) (d : Byte) (s : State) : (latchEA xy d s).ula = s.ula := rfl
@[simp] theorem latchEA_rom (xy : XY) (d : Byte) (s : State) : (latchEA xy d s).rom = s.rom := rfl
@[simp] theorem latchEA_ram (xy : XY) (d : Byte) (s : State) : (latchEA xy d s).ram = s.ram := rfl
@[simp] theorem latchEA_busOut (xy : XY) (d : Byte) (s : State) : (latchEA xy d s).busOut = s.busOut := rfl
@[simp] theorem latchEA_frameCounter (xy : XY) (d : Byte) (s : State) : (latchEA xy d s).frameCounter = s.frameCounter := rfl
@[simp] theorem latchEA_freeIx (xy : XY) (d : Byte) (s : State) : (latchEA xy d s).freeIx = s.freeIx := rfl
@[simp] theorem latchEA_cfg (xy : XY) (d : Byte) (s : State) : (latchEA xy d s).cfg = s.cfg := rfl

/-! ### `skipBytes` -/

@[simp] theorem skipBytes_regs (n : Nat) (s : State) : (skipBytes n s).regs = { s.regs with pc := s.regs.pc + BitVec.ofNat 16 n } := rfl
@[simp] theorem skipBytes_ctl (n : Nat) (s : State) : (skipBytes n s).ctl = s.ctl := rfl
@[simp] theorem skipBytes_clk (n : Nat) (s : State) : (skipBytes n s).clk = s.clk := rfl
@[simp] theorem skipBytes_ula (n : Nat) (s : State) : (skipBytes n s).ula = s.ula := rfl
@[simp] theorem skipBytes_rom (n : Nat) (s : State) : (skipBytes n s).rom = s.rom := rfl
@[simp] theorem skipBytes_ram (n : Nat) (s : State) : (skipBytes n s).ram = s.ram := rfl
@[simp] theorem skipBytes_busOut (n : Nat) (s : State) : (skipBytes n s).busOut = s.busOut := rfl
@[simp] theorem skipBytes_frameCounter (n : Nat) (s : State) : (skipBytes n s).frameCounter = s.frameCounter := rfl
@[simp] theorem skipBytes_freeIx (n : Nat) (s : State) : (skipBytes n s).freeIx = s.freeIx := rfl
@[simp] theorem skipBytes_cfg (n : Nat) (s : State) : (skipBytes n s).cfg = s.cfg := rfl

/-! ### `popPC` -/

@[simp] theorem popPC_regs (s : State) : (popPC s).regs = { s.regs with sp := s.regs.sp + 2, pc := popValue s, wz := popValue s } := rfl
@[simp] theorem popPC_ctl (s : State) : (popPC s).ctl = s.ctl := rfl
@[simp] theorem popPC_clk (s : State) : (popPC s).clk = s.clk := rfl
@[simp] theorem popPC_ula (s : State) : (popPC s).ula = s.ula := rfl
@[simp] theorem popPC_rom (s : State) : (popPC s).rom = s.rom := rfl
@[simp] theorem popPC_ram (s : State) : (popPC s).ram = s.ram := rfl
@[simp] theorem popPC_busOut (s : State) : (popPC s).busOut = s.busOut := rfl
@[simp] theorem popPC_frameCounter (s : State) : (popPC s).frameCounter = s.frameCounter := rfl
@[simp] theorem popPC_freeIx (s : State) : (popPC s).freeIx = s.freeIx := rfl
@[simp] theorem popPC_cfg (s : State) : (popPC s).cfg = s.cfg := rfl

/-! ### `returnFromInterrupt` -/

@[simp] theorem returnFromInterrupt_regs (s : State) : (returnFromInterrupt s).regs = { s.regs with sp := s.regs.sp + 2, pc := popValue s, wz := popValue s } := rfl
@[simp] theorem returnFromInterrupt_ctl (s : State) : (returnFromInterrupt s).ctl = { s.ctl with iff1 := s.ctl.iff2 } := rfl
@[simp] theorem returnFromInterrupt_clk (s : State) : (returnFromInterrupt s).clk = s.clk := rfl
@[simp] theorem returnFromInterrupt_ula (s : State) : (returnFromInterrupt s).ula = s.ula := rfl
@[simp] theorem returnFromInterrupt_rom (s : State) : (returnFromInterrupt s).rom = s.rom := rfl
@[simp] theorem returnFromInterrupt_ram (s : State) : (returnFromInterrupt s).ram = s.ram := rfl
@[simp] theorem returnFromInterrupt_busOut (s : State) : (returnFromInterrupt s).busOut = s.busOut := rfl
@[simp] theorem returnFromInterrupt_frameCounter (s : State) : (returnFromInterrupt s).frameCounter = s.frameCounter := rfl
@[simp] theorem returnFromInterrupt_freeIx (s : State) : (returnFromInterrupt s).freeIx = s.freeIx := rfl
@[simp] theorem returnFromInterrupt_cfg (s : State) : (returnFromInterrupt s).cfg = s.cfg := rfl

/-! ### `refreshM1` -/

@[simp] theorem refreshM1_regs (s : State) : (refreshM1 s).regs = { s.regs with r := bumpR s.regs.r } := rfl
@[simp] theorem refreshM1_clk (s : State) : (refreshM1 s).clk = { s.clk with stepM1 := s.clk.stepM1 + 1, stepR := s.regs.r } := rfl
@[simp] theorem refreshM1_ctl (s : State) : (refreshM1 s).ctl = s.ctl := rfl
@[simp] theorem refreshM1_ula (s : State) : (refreshM1 s).ula = s.ula := rfl
@[simp] theorem refreshM1_rom (s : State) : (refreshM1 s).rom = s.rom := rfl
@[simp] theorem refreshM1_ram (s : State) : (refreshM1 s).ram = s.ram := rfl
@[simp] theorem refreshM1_busOut (s : State) : (refreshM1 s).busOut = s.busOut := rfl
@[simp] theorem refreshM1_frameCounter (s : State) : (refreshM1 s).frameCounter = s.frameCounter := rfl
@[simp] theorem refreshM1_freeIx (s : State) : (refreshM1 s).freeIx = s.freeIx := rfl
@[simp] theorem refreshM1_cfg (s : State) : (refreshM1 s).cfg = s.cfg := rfl

/-! ### `beginStep` -/

@[simp] theorem beginStep_ctl (s : State) : (beginStep s).ctl = { s.ctl with eiBlock := false, prefixBlock := false, ldair := false } := rfl
@[simp] theorem beginStep_clk (s : State) : (beginStep s).clk = { s.clk with stepT := 0, stepM1 := 0 } := rfl
@[simp] theorem beginStep_busOut (s : State) : (beginStep s).busOut = none := rfl
@[simp] theorem beginStep_regs (s : State) : (beginStep s).regs = s.regs := rfl
@[simp] theorem beginStep_ula (s : State) : (beginStep s).ula = s.ula := rfl
@[simp] theorem beginStep_rom (s : State) : (beginStep s).rom = s.rom := rfl
@[simp] theorem beginStep_ram (s : State) : (beginStep s).ram = s.ram := rfl
@[simp] theorem beginStep_frameCounter (s : State) : (beginStep s).frameCounter = s.frameCounter := rfl
@[simp] theorem beginStep_freeIx (s : State) : (beginStep s).freeIx = s.freeIx := rfl
@[simp] theorem beginStep_cfg (s : State) : (beginStep s).cfg = s.cfg := rfl

/-! ### `boundaryAt` -/

@[simp] theorem boundaryAt_ula_lineStart (n : Nat) (s : State) : (boundaryAt n s).ula.lineStart = n := rfl
@[simp] theorem boundaryAt_ula_nextLine (n : Nat) (s : State) : (boundaryAt n s).ula.nextLine = n + Config.lineT := rfl
@[simp] theorem boundaryAt_ula_lineNo (n : Nat) (s : State) : (boundaryAt n s).ula.lineNo = s.ula.lineNo + 1 := rfl
@[simp] theorem boundaryAt_ula_nmiGenOn (n : Nat) (s : State) : (boundaryAt n s).ula.nmiGenOn = s.ula.nmiGenOn := rfl
@[simp] theorem boundaryAt_ula_vsync (n : Nat) (s : State) : (boundaryAt n s).ula.vsync = s.ula.vsync := rfl
@[simp] theorem boundaryAt_ula_frameComplete (n : Nat) (s : State) : (boundaryAt n s).ula.frameComplete = s.ula.frameComplete := rfl
@[simp] theorem boundaryAt_ula_fb (n : Nat) (s : State) : (boundaryAt n s).ula.fb = s.ula.fb := rfl
@[simp] theorem boundaryAt_ula_fbOut (n : Nat) (s : State) : (boundaryAt n s).ula.fbOut = s.ula.fbOut := rfl
@[simp] theorem boundaryAt_ula_keys (n : Nat) (s : State) : (boundaryAt n s).ula.keys = s.ula.keys := rfl
@[simp] theorem boundaryAt_ctl (n : Nat) (s : State) : (boundaryAt n s).ctl = { s.ctl with nmiPending := s.ctl.nmiPending || s.ula.nmiGenOn } := rfl
@[simp] theorem boundaryAt_regs (n : Nat) (s : State) : (boundaryAt n s).regs = s.regs := rfl
@[simp] theorem boundaryAt_clk (n : Nat) (s : State) : (boundaryAt n s).clk = s.clk := rfl
@[simp] theorem boundaryAt_rom (n : Nat) (s : State) : (boundaryAt n s).rom = s.rom := rfl
@[simp] theorem boundaryAt_ram (n : Nat) (s : State) : (boundaryAt n s).ram = s.ram := rfl
@[simp] theorem boundaryAt_busOut (n : Nat) (s : State) : (boundaryAt n s).busOut = s.busOut := rfl
@[simp] theorem boundaryAt_frameCounter (n : Nat) (s : State) : (boundaryAt n s).frameCounter = s.frameCounter := rfl
@[simp] theorem boundaryAt_freeIx (n : Nat) (s : State) : (boundaryAt n s).freeIx = s.freeIx := rfl
@[simp] theorem boundaryAt_cfg (n : Nat) (s : State) : (boundaryAt n s).cfg = s.cfg := rfl

/-! ### `memWrite` -/

@[simp] theorem memWrite_regs (s : State) (addr : Word) (v : Byte) : (memWrite s addr v).regs = s.regs := by
  unfold memWrite; split <;> rfl
@[simp] theorem memWrite_ctl (s : State) (addr : Word) (v : Byte) : (memWrite s addr v).ctl = s.ctl := by
  unfold memWrite; split <;> rfl
@[simp] theorem memWrite_clk (s : State) (addr : Word) (v : Byte) : (memWrite s addr v).clk = s.clk := by
  unfold memWrite; split <;> rfl
@[simp] theorem memWrite_ula (s : State) (addr : Word) (v : Byte) : (memWrite s addr v).ula = s.ula := by
  unfold memWrite; split <;> rfl
@[simp] theorem memWrite_rom (s : State) (addr : Word) (v : Byte) : (memWrite s addr v).rom = s.rom := by
  unfold memWrite; split <;> rfl
@[simp] theorem memWrite_busOut (s : State) (addr : Word) (v : Byte) : (memWrite s addr v).busOut = s.busOut := by
  unfold memWrite; split <;> rfl
@[simp] theorem memWrite_frameCounter (s : State) (addr : Word) (v : Byte) : (memWrite s addr v).frameCounter = s.frameCounter := by
  unfold memWrite; split <;> rfl
@[simp] theorem memWrite_freeIx (s : State) (addr : Word) (v : Byte) : (memWrite s addr v).freeIx = s.freeIx := by
  unfold memWrite; split <;> rfl
@[simp] theorem memWrite_cfg (s : State) (addr : Word) (v : Byte) : (memWrite s addr v).cfg = s.cfg := by
  unfold memWrite; split <;> rfl

/-! ### `rawWrite` -/

@[simp] theorem rawWrite_regs (s : State) (addr : Word) (v : Byte) : (rawWrite s addr v).regs = s.regs := by
  unfold rawWrite; split <;> rfl
@[simp] theorem rawWrite_ctl (s : State) (addr : Word) (v : Byte) : (rawWrite s addr v).ctl = s.ctl := by
  unfold rawWrite; split <;> rfl
@[simp] theorem rawWrite_clk (s : State) (addr : Word) (v : Byte) : (rawWrite s addr v).clk = s.clk := by
  unfold rawWrite; split <;> rfl
@[simp] theorem rawWrite_ula (s : State) (addr : Word) (v : Byte) : (rawWrite s addr v).ula = s.ula := by
  unfold rawWrite; split <;> rfl
@[simp] theorem rawWrite_busOut (s : State) (addr : Word) (v : Byte) : (rawWrite s addr v).busOut = s.busOut := by
  unfold rawWrite; split <;> rfl
@[simp] theorem rawWrite_frameCounter (s : State) (addr : Word) (v : Byte) : (rawWrite s addr v).frameCounter = s.frameCounter := by
  unfold rawWrite; split <;> rfl
@[simp] theorem rawWrite_freeIx (s : State) (addr : Word) (v : Byte) : (rawWrite s addr v).freeIx = s.freeIx := by
  unfold rawWrite; split <;> rfl
@[simp] theorem rawWrite_cfg (s : State) (addr : Word) (v : Byte) : (rawWrite s addr v).cfg = s.cfg := by
  unfold rawWrite; split <;> rfl

/-! ### `memWrite16` -/

@[simp] theorem memWrite16_regs (s : State) (addr v : Word) : (memWrite16 s addr v).regs = s.regs := by
  simp [memWrite16]
@[simp] theorem memWrite16_ctl (s : State) (addr v : Word) : (memWrite16 s addr v).ctl = s.ctl := by
  simp [memWrite16]
@[simp] theorem memWrite16_clk (s : State) (addr v : Word) : (memWrite16 s addr v).clk = s.clk := by
  simp [memWrite16]
@[simp] theorem memWrite16_ula (s : State) (addr v : Word) : (memWrite16 s addr v).ula = s.ula := by
  simp [memWrite16]
@[simp] theorem memWrite16_rom (s : State) (addr v : Word) : (memWrite16 s addr v).rom = s.rom := by
  simp [memWrite16]
@[simp] theorem memWrite16_busOut (s : State) (addr v : Word) : (memWrite16 s addr v).busOut = s.busOut := by
  simp [memWrite16]
@[simp] theorem memWrite16_frameCounter (s : State) (addr v : Word) : (memWrite16 s addr v).frameCounter = s.frameCounter := by
  simp [memWrite16]
@[simp] theorem memWrite16_freeIx (s : State) (addr v : Word) : (memWrite16 s addr v).freeIx = s.freeIx := by
  simp [memWrite16]
@[simp] theorem memWrite16_cfg (s : State) (addr v : Word) : (memWrite16 s addr v).cfg = s.cfg := by
  simp [memWrite16]

/-! ### `push16` -/

@[simp] theorem push16_regs (v : Word) (s : State) : (push16 v s).regs = { s.regs with sp := s.regs.sp - 2 } := by
  simp [push16]
@[simp] theorem push16_ctl (v : Word) (s : State) : (push16 v s).ctl = s.ctl := by
  simp [push16]
@[simp] theorem push16_clk (v : Word) (s : State) : (push16 v s).clk = s.clk := by
  simp [push16]
@[simp] theorem push16_ula (v : Word) (s : State) : (push16 v s).ula = s.ula := by
  simp [push16]
@[simp] theorem push16_rom (v : Word) (s : State) : (push16 v s).rom = s.rom := by
  simp [push16]
@[simp] theorem push16_busOut (v : Word) (s : State) : (push16 v s).busOut = s.busOut := by
  simp [push16]
@[simp] theorem push16_frameCounter (v : Word) (s : State) : (push16 v s).frameCounter = s.frameCounter := by
  simp [push16]
@[simp] theorem push16_freeIx (v : Word) (s : State) : (push16 v s).freeIx = s.freeIx := by
  simp [push16]
@[simp] theorem push16_cfg (v : Word) (s : State) : (push16 v s).cfg = s.cfg := by
  simp [push16]

/-! ### `putMem` -/

@[simp] theorem putMem_regs (addr : Word) (x : Byte × Byte) (s : State) : (putMem addr x s).regs = { s.regs with f := x.2 } := by
  simp [putMem]
@[simp] theorem putMem_ctl (addr : Word) (x : Byte × Byte) (s : State) : (putMem addr x s).ctl = s.ctl := by
  simp [putMem]
@[simp] theorem putMem_clk (addr : Word) (x : Byte × Byte) (s : State) : (putMem addr x s).clk = s.clk := by
  simp [putMem]
@[simp] theorem putMem_ula (addr : Word) (x : Byte × Byte) (s : State) : (putMem addr x s).ula = s.ula := by
  simp [putMem]
@[simp] theorem putMem_rom (addr : Word) (x : Byte × Byte) (s : State) : (putMem addr x s).rom = s.rom := by
  simp [putMem]
@[simp] theorem putMem_busOut (addr : Word) (x : Byte × Byte) (s : State) : (putMem addr x s).busOut = s.busOut := by
  simp [putMem]
@[simp] theorem putMem_frameCounter (addr : Word) (x : Byte × Byte) (s : State) : (putMem addr x s).frameCounter = s.frameCounter := by
  simp [putMem]
@[simp] theorem putMem_freeIx (addr : Word) (x : Byte × Byte) (s : State) : (putMem addr x s).freeIx = s.freeIx := by
  simp [putMem]
@[simp] theorem putMem_cfg (addr : Word) (x : Byte × Byte) (s : State) : (putMem addr x s).cfg = s.cfg := by
  simp [putMem]

/-! ### `modifyMem` -/

@[simp] theorem modifyMem_regs (addr : Word) (g : Byte → Byte) (s : State) : (modifyMem addr g s).regs = s.regs := by
  simp [modifyMem]
@[simp] theorem modifyMem_ctl (addr : Word) (g : Byte → Byte) (s : State) : (modifyMem addr g s).ctl = s.ctl := by
  simp [modifyMem]
@[simp] theorem modifyMem_clk (addr : Word) (g : Byte → Byte) (s : State) : (modifyMem addr g s).clk = s.clk := by
  simp [modifyMem]
@[simp] theorem modifyMem_ula (addr : Word) (g : Byte → Byte) (s : State) : (modifyMem addr g s).ula = s.ula := by
  simp [modifyMem]
@[simp] theorem modifyMem_rom (addr : Word) (g : Byte → Byte) (s : State) : (modifyMem addr g s).rom = s.rom := by
  simp [modifyMem]
@[simp] theorem modifyMem_busOut (addr : Word) (g : Byte → Byte) (s : State) : (modifyMem addr g s).busOut = s.busOut := by
  simp [modifyMem]
@[simp] theorem modifyMem_frameCounter (addr : Word) (g : Byte → Byte) (s : State) : (modifyMem addr g s).frameCounter = s.frameCounter := by
  simp [modifyMem]
@[simp] theorem modifyMem_freeIx (addr : Word) (g : Byte → Byte) (s : State) : (modifyMem addr g s).freeIx = s.freeIx := by
  simp [modifyMem]
@[simp] theorem modifyMem_cfg (addr : Word) (g : Byte → Byte) (s : State) : (modifyMem addr g s).cfg = s.cfg := by
  simp [modifyMem]

/-! ### `storeCopy` -/

@[simp] theorem storeCopy_regs (addr : Word) (r : Reg8) (v : Byte) (s : State) : (storeCopy addr r v s).regs = setR8 r v s.regs := by
  simp [storeCopy]
@[simp] theorem storeCopy_ctl (addr : Word) (r : Reg8) (v : Byte) (s : State) : (storeCopy addr r v s).ctl = s.ctl := by
  simp [storeCopy]
@[simp] theorem storeCopy_clk (addr : Word) (r : Reg8) (v : Byte) (s : State) : (storeCopy addr r v s).clk = s.clk := by
  simp [storeCopy]
@[simp] theorem storeCopy_ula (addr : Word) (r : Reg8) (v : Byte) (s : State) : (storeCopy addr r v s).ula = s.ula := by
  simp [storeCopy]
@[simp] theorem storeCopy_rom (addr : Word) (r : Reg8) (v : Byte) (s : State) : (storeCopy addr r v s).rom = s.rom := by
  simp [storeCopy]
@[simp] theorem storeCopy_busOut (addr : Word) (r : Reg8) (v : Byte) (s : State) : (storeCopy addr r v s).busOut = s.busOut := by
  simp [storeCopy]
@[simp] theorem storeCopy_frameCounter (addr : Word) (r : Reg8) (v : Byte) (s : State) : (storeCopy addr r v s).frameCounter = s.frameCounter := by
  simp [storeCopy]
@[simp] theorem storeCopy_freeIx (addr : Word) (r : Reg8) (v : Byte) (s : State) : (storeCopy addr r v s).freeIx = s.freeIx := by
  simp [storeCopy]
@[simp] theorem storeCopy_cfg (addr : Word) (r : Reg8) (v : Byte) (s : State) : (storeCopy addr r v s).cfg = s.cfg := by
  simp [storeCopy]

end Sys2Proof.Machine
end

