-- ==== Sys2Proof/Laws/Memory.lean ====
section
/-! SUPPORT. Memories and pictures: what a write leaves to be read, and that every operation keeps the canonical form. -/

namespace Sys2Proof.Machine

/-- In a canonical memory whose first index is above `k`, `k` is not listed. -/
theorem Memory.read_of_lt {dflt : Byte} {m : Memory} {k : Nat} (h : ∀ x ∈ m, k < x.1) :
    Memory.read dflt m k = dflt := by
  induction m with
  | nil => rfl
  | cons x m ih =>
    obtain ⟨k', v⟩ := x
    have hk : k < k' := h (k', v) (by simp)
    have hne : k ≠ k' := by omega
    simp only [Memory.read, hne, if_false]
    exact ih fun y hy => h y (by simp [hy])

/-- Reading after a write, at any index (R84). -/
theorem Memory.read_write {dflt : Byte} {m : Memory} (h : m.Pairwise (fun x y => x.1 < y.1)) (k j : Nat) (v : Byte) :
    Memory.read dflt (Memory.write dflt m k v) j = if j = k then v else Memory.read dflt m j := by
  induction m with
  | nil =>
    by_cases hv : v = dflt
    · simp [Memory.write, Memory.read, hv]
    · simp [Memory.write, Memory.read, hv]
  | cons x m ih =>
    obtain ⟨k', v'⟩ := x
    rw [List.pairwise_cons] at h
    have ih := ih h.2
    by_cases h1 : k < k'
    · by_cases hv : v = dflt
      · simp only [Memory.write, h1, if_true, hv]
        by_cases hj : j = k
        · subst hj
          rw [if_pos rfl]
          apply Memory.read_of_lt
          intro y hy
          rcases List.mem_cons.1 hy with rfl | hy
          · exact h1
          · exact Nat.lt_trans h1 (h.1 y hy)
        · simp [hj]
      · simp only [Memory.write, h1, if_true, hv, if_false]
        by_cases hj : j = k
        · simp [Memory.read, hj]
        · simp [Memory.read, hj]
    · by_cases h2 : k = k'
      · subst h2
        by_cases hv : v = dflt
        · simp only [Memory.write, h1, if_false, hv, if_true]
          by_cases hj : j = k
          · subst hj
            rw [if_pos rfl]
            exact Memory.read_of_lt h.1
          · simp [Memory.read, hj]
        · simp only [Memory.write, h1, if_false, hv, if_true]
          by_cases hj : j = k
          · simp [Memory.read, hj]
          · simp [Memory.read, hj]
      · simp only [Memory.write, h1, h2, if_false]
        by_cases hj : j = k'
        · subst hj
          have hjk : j ≠ k := fun e => h2 e.symm
          simp [Memory.read, hjk]
        · simp [Memory.read, hj, ih]

/-- Every entry of a written memory is an old one or the new one. -/
theorem Memory.mem_write {dflt : Byte} {m : Memory} {k : Nat} {v : Byte} {x : Host.Cell}
    (hx : x ∈ Memory.write dflt m k v) : x ∈ m ∨ (x = (k, v) ∧ v ≠ dflt) := by
  induction m with
  | nil =>
    by_cases hv : v = dflt
    · simp [Memory.write, hv] at hx
    · simp [Memory.write, hv] at hx
      exact .inr ⟨hx, hv⟩
  | cons y m ih =>
    obtain ⟨k', v'⟩ := y
    simp only [Memory.write] at hx
    split at hx
    · split at hx
      · exact .inl hx
      · next hv =>
        rcases List.mem_cons.1 hx with rfl | hx
        · exact .inr ⟨rfl, hv⟩
        · exact .inl hx
    · split at hx
      · split at hx
        · exact .inl (List.mem_cons_of_mem _ hx)
        · next hv =>
          rcases List.mem_cons.1 hx with rfl | hx
          · exact .inr ⟨rfl, hv⟩
          · exact .inl (List.mem_cons_of_mem _ hx)
      · rcases List.mem_cons.1 hx with rfl | hx
        · exact .inl (by simp)
        · rcases ih hx with h | h
          · exact .inl (List.mem_cons_of_mem _ h)
          · exact .inr h

/-- A write keeps the indices strictly rising. -/
theorem Memory.pairwise_write {dflt : Byte} {m : Memory} (h : m.Pairwise (fun x y => x.1 < y.1)) (k : Nat) (v : Byte) :
    (Memory.write dflt m k v).Pairwise (fun x y => x.1 < y.1) := by
  induction m with
  | nil => by_cases hv : v = dflt <;> simp [Memory.write, hv]
  | cons x m ih =>
    obtain ⟨k', v'⟩ := x
    have h' := h
    rw [List.pairwise_cons] at h'
    simp only [Memory.write]
    split
    · next hlt =>
      split
      · exact h
      · rw [List.pairwise_cons]
        refine ⟨fun y hy => ?_, h⟩
        rcases List.mem_cons.1 hy with rfl | hy
        · exact hlt
        · exact Nat.lt_trans hlt (h'.1 y hy)
    · next hlt =>
      split
      · next heq =>
        subst heq
        split
        · exact h'.2
        · exact List.pairwise_cons.2 ⟨h'.1, h'.2⟩
      · next hne =>
        rw [List.pairwise_cons]
        refine ⟨fun y hy => ?_, ih h'.2⟩
        rcases Memory.mem_write hy with hy | ⟨rfl, _⟩
        · exact h'.1 y hy
        · show k' < k
          omega

/-- A write keeps the canonical form. -/
theorem Memory.wf_write {dflt : Byte} {bound : Nat} {m : Memory} (h : Memory.wf dflt bound m) {k : Nat}
    (hk : k < bound) (v : Byte) : Memory.wf dflt bound (Memory.write dflt m k v) := by
  refine ⟨Memory.pairwise_write h.1 k v, fun x hx => ?_⟩
  rcases Memory.mem_write hx with hx | ⟨rfl, hv⟩
  · exact h.2 x hx
  · exact ⟨hv, hk⟩

/-- A filled memory has the canonical form. -/
theorem Memory.wf_fill (dflt : Byte) (n : Nat) (v : Byte) : Memory.wf dflt n (Memory.fill dflt n v) := by
  unfold Memory.fill
  split
  · exact ⟨List.Pairwise.nil, by simp⟩
  · next hv =>
    refine ⟨?_, fun x hx => ?_⟩
    · rw [List.pairwise_map]
      exact List.pairwise_lt_range
    · simp only [List.mem_map, List.mem_range] at hx
      obtain ⟨k, hk, rfl⟩ := hx
      exact ⟨hv, hk⟩

/-- Every pixel of a written picture is an old one or the new one. -/
theorem Pixels.mem_put {m : Pixels} {k : Nat} {ink : Bool} {x : Nat} (hx : x ∈ Pixels.put m k ink) :
    x ∈ m ∨ x = k := by
  induction m with
  | nil => cases ink <;> simp [Pixels.put] at hx; exact .inr hx
  | cons y m ih =>
    simp only [Pixels.put] at hx
    split at hx
    · cases ink
      · exact .inl (by simpa using hx)
      · rw [if_pos rfl] at hx
        rcases List.mem_cons.1 hx with h | h
        · exact .inr h
        · exact .inl h
    · split at hx
      · cases ink
        · exact .inl (List.mem_cons_of_mem _ (by simpa using hx))
        · exact .inl (by simpa using hx)
      · rcases List.mem_cons.1 hx with h | h
        · exact .inl (by simp [h])
        · exact (ih h).imp (List.mem_cons_of_mem _) id

/-- Setting a pixel keeps the canonical form. -/
theorem Pixels.wf_put {m : Pixels} (h : Pixels.wf m) {k : Nat} (hk : k < Config.fbWidth * Config.fbLines)
    (ink : Bool) : Pixels.wf (Pixels.put m k ink) := by
  refine ⟨?_, fun x hx => (Pixels.mem_put hx).elim (h.2 x) (fun e => e ▸ hk)⟩
  have h1 := h.1
  clear h hk
  induction m with
  | nil => cases ink <;> simp [Pixels.put]
  | cons y m ih =>
    have h' := List.pairwise_cons.1 h1
    simp only [Pixels.put]
    split
    · next hlt =>
      cases ink
      · simpa using h1
      · simp only [if_true, List.pairwise_cons]
        refine ⟨fun z hz => ?_, h'⟩
        rcases List.mem_cons.1 hz with rfl | hz
        · exact hlt
        · exact Nat.lt_trans hlt (h'.1 z hz)
    · split
      · cases ink
        · simpa using h'.2
        · simpa using h1
      · rw [List.pairwise_cons]
        refine ⟨fun z hz => ?_, ih h'.2⟩
        rcases Pixels.mem_put hz with hz | rfl
        · exact h'.1 z hz
        · omega

/-- Looking at a picture after a pixel has been set. -/
theorem Pixels.get_put {m : Pixels} (h : m.Pairwise (· < ·)) (k j : Nat) (ink : Bool) :
    Pixels.get (Pixels.put m k ink) j = if j = k then ink else Pixels.get m j := by
  induction m with
  | nil => cases ink <;> simp [Pixels.put, Pixels.get]
  | cons x m ih =>
    have h' := List.pairwise_cons.1 h
    have ih := ih h'.2
    have hbelow : ∀ y, y < x → y ∉ m := fun y hy hm => by
      have := h'.1 y hm
      omega
    have hx : x ∉ m := fun hm => by
      have := h'.1 x hm
      omega
    unfold Pixels.get at ih ⊢
    simp only [Pixels.put]
    split
    · next hlt =>
      by_cases hj : j = k
      · subst hj
        cases ink
        · simp [hbelow j hlt]
          omega
        · simp
      · cases ink <;> simp [hj]
    · split
      · next heq =>
        subst heq
        by_cases hj : j = k
        · subst hj
          cases ink <;> simp [hx]
        · cases ink <;> simp [hj]
      · next hne =>
        by_cases hj : j = x
        · subst hj
          simp
          omega
        · simp [hj] at ih ⊢
          simpa using ih

/-- Bit 14 of an address as an inequality (R82). -/
theorem bit14_iff (x : Word) : x.getLsbD 14 = true ↔ 0x4000 ≤ x.toNat % 0x8000 := by
  have h := x.isLt
  rw [BitVec.getLsbD, Nat.testBit, Nat.shiftRight_eq_div_pow]
  simp only [Nat.one_and_eq_mod_two, bne_iff_ne, ne_eq]
  omega

/-- The map of R82 by bit 14: RAM where it is set, ROM where it is clear. -/
theorem place_eq (cfg : Config) (x : Word) :
    place cfg x =
      if x.getLsbD 14 then .ram (x.toNat % cfg.ramSize.bytes) else .rom (x.toNat % Config.romSize) := by
  have hb := bit14_iff x
  unfold place
  simp only
  generalize x.toNat = n at hb ⊢
  cases hx : x.getLsbD 14
  · rw [hx] at hb
    have h : n % 0x8000 < 0x4000 := by
      rcases Nat.lt_or_ge (n % 0x8000) 0x4000 with h | h
      · exact h
      · exact absurd (hb.2 h) Bool.false_ne_true
    rw [if_pos h, if_neg Bool.false_ne_true]
    refine congrArg Place.rom ?_
    simp only [Config.romSize]
    omega
  · have h : ¬ n % 0x8000 < 0x4000 := Nat.not_lt.2 (hb.1 hx)
    rw [if_neg h, if_pos rfl]
    refine congrArg Place.ram ?_
    cases cfg.ramSize <;> simp only [RamSize.bytes] <;> omega

/-- Every place of the map is inside its memory (R82). -/
theorem place_bound (cfg : Config) (addr : Word) :
    match place cfg addr with
    | .rom k => k < Config.romSize
    | .ram k => k < cfg.ramSize.bytes := by
  have hr : 0 < cfg.ramSize.bytes := by cases cfg.ramSize <;> decide
  rw [place_eq]
  cases addr.getLsbD 14
  · exact Nat.mod_lt _ (by decide)
  · exact Nat.mod_lt _ hr

/-- A CPU write keeps every canonical form. -/
theorem memWf_memWrite {s : State} (h : s.memWf) (addr : Word) (v : Byte) : (memWrite s addr v).memWf := by
  have hb := place_bound s.cfg addr
  unfold memWrite
  split
  · exact h
  · next k hk =>
    rw [hk] at hb
    exact ⟨h.1, Memory.wf_write h.2.1 hb v, h.2.2⟩

/-- A raw write keeps every canonical form. -/
theorem memWf_rawWrite {s : State} (h : s.memWf) (addr : Word) (v : Byte) : (rawWrite s addr v).memWf := by
  have hb := place_bound s.cfg addr
  unfold rawWrite
  split
  · next k hk =>
    rw [hk] at hb
    exact ⟨Memory.wf_write h.1 hb v, h.2⟩
  · next k hk =>
    rw [hk] at hb
    exact ⟨h.1, Memory.wf_write h.2.1 hb v, h.2.2⟩

/-- An image keeps every canonical form. -/
theorem memWf_rawWriteBytes (bytes : List Byte) (addr : Word) {s : State} (h : s.memWf) :
    (rawWriteBytes bytes addr s).memWf := by
  induction bytes generalizing addr s with
  | nil => exact h
  | cons v vs ih => exact ih _ (memWf_rawWrite h addr v)

/-- All that a CPU write can do (R84, R85): nothing, or one RAM cell. -/
theorem memWrite_cases (s : State) (addr : Word) (v : Byte) :
    (∃ k, place s.cfg addr = .rom k ∧ memWrite s addr v = s) ∨
      (∃ k, place s.cfg addr = .ram k ∧
        memWrite s addr v = { s with ram := Memory.write s.cfg.ramPowerOnFill s.ram k v }) := by
  unfold memWrite
  cases h : place s.cfg addr with
  | rom k => exact .inl ⟨k, rfl, rfl⟩
  | ram k => exact .inr ⟨k, rfl, rfl⟩

/-- The RAM that a CPU write leaves (R84, R85). -/
def storeRam (cfg : Config) (ram : Memory) (addr : Word) (v : Byte) : Memory :=
  match place cfg addr with
  | .rom _ => ram
  | .ram k => Memory.write cfg.ramPowerOnFill ram k v

/-- A CPU write changes RAM only, by the RAM and the parameters alone. -/
theorem memWrite_eq (s : State) (addr : Word) (v : Byte) :
    memWrite s addr v = { s with ram := storeRam s.cfg s.ram addr v } := by
  unfold memWrite storeRam
  cases place s.cfg addr <;> rfl

/-- A read depends on the parameters and the two memories alone. -/
theorem memRead_congr {s t : State} (hc : s.cfg = t.cfg) (ho : s.rom = t.rom) (ha : s.ram = t.ram) (addr : Word) :
    memRead s addr = memRead t addr := by
  unfold memRead
  rw [hc, ho, ha]

end Sys2Proof.Machine
end

