-- ==== Sys2Proof/Laws/Registers.lean ====
section
/-! SUPPORT. Pairs, halves and numbered registers: what a write leaves to be read. -/

namespace Sys2Proof

@[simp] theorem hiByte_joinBytes (hi lo : Byte) : hiByte (joinBytes hi lo) = hi := by
  unfold hiByte joinBytes; ext i hi'; simp; grind

@[simp] theorem loByte_joinBytes (hi lo : Byte) : loByte (joinBytes hi lo) = lo := by
  unfold loByte joinBytes; ext i hi'; simp; grind

@[simp] theorem joinBytes_hi_lo (v : Word) : joinBytes (hiByte v) (loByte v) = v := by
  unfold joinBytes hiByte loByte; ext i hi'; simp; grind

end Sys2Proof

namespace Sys2Proof.Machine

@[simp] theorem setR8_b (v : Byte) (g : Regs) : setR8 .b v g = { g with b := v } := rfl
@[simp] theorem setR8_c (v : Byte) (g : Regs) : setR8 .c v g = { g with c := v } := rfl
@[simp] theorem setR8_d (v : Byte) (g : Regs) : setR8 .d v g = { g with d := v } := rfl
@[simp] theorem setR8_e (v : Byte) (g : Regs) : setR8 .e v g = { g with e := v } := rfl
@[simp] theorem setR8_h (v : Byte) (g : Regs) : setR8 .h v g = { g with h := v } := rfl
@[simp] theorem setR8_l (v : Byte) (g : Regs) : setR8 .l v g = { g with l := v } := rfl
@[simp] theorem setR8_a (v : Byte) (g : Regs) : setR8 .a v g = { g with a := v } := rfl

/-- Reading a register back, and reading another one (R41). -/
theorem getR8_setR8 (r r' : Reg8) (v : Byte) (g : Regs) :
    getR8 r' (setR8 r v g) = if r' = r then v else getR8 r' g := by
  cases r <;> cases r' <;> rfl

/-- Writing a register leaves every field that is no numbered register. -/
theorem setR8_frame (r : Reg8) (v : Byte) (g : Regs) :
    (setR8 r v g).f = g.f ∧ (setR8 r v g).afAlt = g.afAlt ∧ (setR8 r v g).bcAlt = g.bcAlt ∧
      (setR8 r v g).deAlt = g.deAlt ∧ (setR8 r v g).hlAlt = g.hlAlt ∧ (setR8 r v g).ix = g.ix ∧
      (setR8 r v g).iy = g.iy ∧ (setR8 r v g).sp = g.sp ∧ (setR8 r v g).pc = g.pc ∧ (setR8 r v g).wz = g.wz ∧
      (setR8 r v g).i = g.i ∧ (setR8 r v g).r = g.r := by
  cases r <;> simp

@[simp] theorem bc_setBC (v : Word) (g : Regs) : (setBC v g).bc = v := by simp [Regs.bc, setBC]
@[simp] theorem de_setDE (v : Word) (g : Regs) : (setDE v g).de = v := by simp [Regs.de, setDE]
@[simp] theorem hl_setHL (v : Word) (g : Regs) : (setHL v g).hl = v := by simp [Regs.hl, setHL]
@[simp] theorem af_setAF (v : Word) (g : Regs) : (setAF v g).af = v := by simp [Regs.af, setAF]

/-- Reading a pair back (R41). -/
@[simp] theorem getRP_setRP (p : RP) (v : Word) (g : Regs) : getRP p (setRP p v g) = v := by
  cases p <;> simp [getRP, setRP]

@[simp] theorem getRP2_setRP2 (p : RP2) (v : Word) (g : Regs) : getRP2 p (setRP2 p v g) = v := by
  cases p <;> simp [getRP2, setRP2]

@[simp] theorem getXY_setXY (xy : XY) (v : Word) (g : Regs) : getXY xy (setXY xy v g) = v := by
  cases xy <;> rfl

/-- Reading a byte of an index register back, and reading the other byte of it (R43). -/
theorem getHalf_setHalf (xy : XY) (h h' : Half) (v : Byte) (g : Regs) :
    getHalf xy h' (setHalf xy h v g) = if h' = h then v else getHalf xy h' g := by
  cases xy <;> cases h <;> cases h' <;> simp [getHalf, setHalf, getXY, setXY]

end Sys2Proof.Machine
end

