-- ==== Sys2Proof/Laws/Video.lean ====
section
/-! SUPPORT. The line timer, the video observer, the I/O bus and the fetch: what each of them can do, said once, and what
it leaves alone. -/

namespace Sys2Proof.Machine

/-! ### The line timer -/

/-- `n` boundaries: the ULA's line state moves on, and the NMI generator may request an NMI; nothing else changes. -/
theorem boundaries_frame (n : Nat) (s : State) :
    boundaries n s =
      { s with
        ula := { s.ula with
          lineStart := (boundaries n s).ula.lineStart
          nextLine := s.ula.nextLine + n * Config.lineT
          lcntr := (boundaries n s).ula.lcntr
          lineNo := s.ula.lineNo + n }
        ctl := { s.ctl with nmiPending := s.ctl.nmiPending || (decide (n ≠ 0) && s.ula.nmiGenOn) } } := by
  induction n generalizing s with
  | zero => simp [boundaries]
  | succ n ih =>
    have h := ih (boundaryAt s.ula.nextLine s)
    have e : boundaries (n + 1) s = boundaries n (boundaryAt s.ula.nextLine s) := rfl
    rw [e, h]
    simp only [boundaryAt, ne_eq, Nat.add_eq_zero_iff, one_ne_zero, and_false, not_false_eq_true, decide_true,
      Bool.true_and]
    have e1 : s.ula.nextLine + Config.lineT + n * Config.lineT = s.ula.nextLine + (n + 1) * Config.lineT := by ring
    have e2 : s.ula.lineNo + 1 + n = s.ula.lineNo + (n + 1) := by omega
    cases s.ctl.nmiPending <;> cases s.ula.nmiGenOn <;> simp [e1, e2]

@[simp] theorem boundaries_regs (n : Nat) (s : State) : (boundaries n s).regs = s.regs := by
  rw [boundaries_frame]
@[simp] theorem boundaries_clk (n : Nat) (s : State) : (boundaries n s).clk = s.clk := by
  rw [boundaries_frame]
@[simp] theorem boundaries_rom (n : Nat) (s : State) : (boundaries n s).rom = s.rom := by
  rw [boundaries_frame]
@[simp] theorem boundaries_ram (n : Nat) (s : State) : (boundaries n s).ram = s.ram := by
  rw [boundaries_frame]
@[simp] theorem boundaries_busOut (n : Nat) (s : State) : (boundaries n s).busOut = s.busOut := by
  rw [boundaries_frame]
@[simp] theorem boundaries_frameCounter (n : Nat) (s : State) : (boundaries n s).frameCounter = s.frameCounter := by
  rw [boundaries_frame]
@[simp] theorem boundaries_freeIx (n : Nat) (s : State) : (boundaries n s).freeIx = s.freeIx := by
  rw [boundaries_frame]
@[simp] theorem boundaries_cfg (n : Nat) (s : State) : (boundaries n s).cfg = s.cfg := by
  rw [boundaries_frame]
@[simp] theorem boundaries_ula_nmiGenOn (n : Nat) (s : State) : (boundaries n s).ula.nmiGenOn = s.ula.nmiGenOn := by
  rw [boundaries_frame]
@[simp] theorem boundaries_ula_vsync (n : Nat) (s : State) : (boundaries n s).ula.vsync = s.ula.vsync := by
  rw [boundaries_frame]
@[simp] theorem boundaries_ula_frameComplete (n : Nat) (s : State) : (boundaries n s).ula.frameComplete = s.ula.frameComplete := by
  rw [boundaries_frame]
@[simp] theorem boundaries_ula_fb (n : Nat) (s : State) : (boundaries n s).ula.fb = s.ula.fb := by
  rw [boundaries_frame]
@[simp] theorem boundaries_ula_fbOut (n : Nat) (s : State) : (boundaries n s).ula.fbOut = s.ula.fbOut := by
  rw [boundaries_frame]
@[simp] theorem boundaries_ula_keys (n : Nat) (s : State) : (boundaries n s).ula.keys = s.ula.keys := by
  rw [boundaries_frame]
theorem boundaries_ula_nextLine (n : Nat) (s : State) :
    (boundaries n s).ula.nextLine = s.ula.nextLine + n * Config.lineT := by
  rw [boundaries_frame]

@[simp] theorem advanceTo_regs (n : Nat) (s : State) : (advanceTo n s).regs = s.regs := by
  simp [advanceTo]
@[simp] theorem advanceTo_clk (n : Nat) (s : State) : (advanceTo n s).clk = s.clk := by
  simp [advanceTo]
@[simp] theorem advanceTo_rom (n : Nat) (s : State) : (advanceTo n s).rom = s.rom := by
  simp [advanceTo]
@[simp] theorem advanceTo_ram (n : Nat) (s : State) : (advanceTo n s).ram = s.ram := by
  simp [advanceTo]
@[simp] theorem advanceTo_busOut (n : Nat) (s : State) : (advanceTo n s).busOut = s.busOut := by
  simp [advanceTo]
@[simp] theorem advanceTo_frameCounter (n : Nat) (s : State) : (advanceTo n s).frameCounter = s.frameCounter := by
  simp [advanceTo]
@[simp] theorem advanceTo_freeIx (n : Nat) (s : State) : (advanceTo n s).freeIx = s.freeIx := by
  simp [advanceTo]
@[simp] theorem advanceTo_cfg (n : Nat) (s : State) : (advanceTo n s).cfg = s.cfg := by
  simp [advanceTo]
@[simp] theorem advanceTo_ula_nmiGenOn (n : Nat) (s : State) : (advanceTo n s).ula.nmiGenOn = s.ula.nmiGenOn := by
  simp [advanceTo]
@[simp] theorem advanceTo_ula_vsync (n : Nat) (s : State) : (advanceTo n s).ula.vsync = s.ula.vsync := by
  simp [advanceTo]
@[simp] theorem advanceTo_ula_frameComplete (n : Nat) (s : State) : (advanceTo n s).ula.frameComplete = s.ula.frameComplete := by
  simp [advanceTo]
@[simp] theorem advanceTo_ula_fb (n : Nat) (s : State) : (advanceTo n s).ula.fb = s.ula.fb := by
  simp [advanceTo]
@[simp] theorem advanceTo_ula_fbOut (n : Nat) (s : State) : (advanceTo n s).ula.fbOut = s.ula.fbOut := by
  simp [advanceTo]
@[simp] theorem advanceTo_ula_keys (n : Nat) (s : State) : (advanceTo n s).ula.keys = s.ula.keys := by
  simp [advanceTo]

@[simp] theorem advanceBefore_regs (n : Nat) (s : State) : (advanceBefore n s).regs = s.regs := by
  simp [advanceBefore]
@[simp] theorem advanceBefore_clk (n : Nat) (s : State) : (advanceBefore n s).clk = s.clk := by
  simp [advanceBefore]
@[simp] theorem advanceBefore_rom (n : Nat) (s : State) : (advanceBefore n s).rom = s.rom := by
  simp [advanceBefore]
@[simp] theorem advanceBefore_ram (n : Nat) (s : State) : (advanceBefore n s).ram = s.ram := by
  simp [advanceBefore]
@[simp] theorem advanceBefore_busOut (n : Nat) (s : State) : (advanceBefore n s).busOut = s.busOut := by
  simp [advanceBefore]
@[simp] theorem advanceBefore_frameCounter (n : Nat) (s : State) : (advanceBefore n s).frameCounter = s.frameCounter := by
  simp [advanceBefore]
@[simp] theorem advanceBefore_freeIx (n : Nat) (s : State) : (advanceBefore n s).freeIx = s.freeIx := by
  simp [advanceBefore]
@[simp] theorem advanceBefore_cfg (n : Nat) (s : State) : (advanceBefore n s).cfg = s.cfg := by
  simp [advanceBefore]
@[simp] theorem advanceBefore_ula_nmiGenOn (n : Nat) (s : State) : (advanceBefore n s).ula.nmiGenOn = s.ula.nmiGenOn := by
  simp [advanceBefore]
@[simp] theorem advanceBefore_ula_vsync (n : Nat) (s : State) : (advanceBefore n s).ula.vsync = s.ula.vsync := by
  simp [advanceBefore]
@[simp] theorem advanceBefore_ula_frameComplete (n : Nat) (s : State) : (advanceBefore n s).ula.frameComplete = s.ula.frameComplete := by
  simp [advanceBefore]
@[simp] theorem advanceBefore_ula_fb (n : Nat) (s : State) : (advanceBefore n s).ula.fb = s.ula.fb := by
  simp [advanceBefore]
@[simp] theorem advanceBefore_ula_fbOut (n : Nat) (s : State) : (advanceBefore n s).ula.fbOut = s.ula.fbOut := by
  simp [advanceBefore]
@[simp] theorem advanceBefore_ula_keys (n : Nat) (s : State) : (advanceBefore n s).ula.keys = s.ula.keys := by
  simp [advanceBefore]

/-- The line timer changes of the control bits only `nmi_pending`. -/
theorem boundaries_ctl (n : Nat) (s : State) :
    (boundaries n s).ctl =
      { s.ctl with nmiPending := s.ctl.nmiPending || (decide (n ≠ 0) && s.ula.nmiGenOn) } := by
  rw [boundaries_frame]

/-! ### The video observer (R522) -/

/-- The observer runs the line timer and may draw into `fb`; nothing else changes. -/
theorem videoFetch_cases (addr : Word) (raw : Byte) (stamp : Nat) (s : State) :
    videoFetch addr raw stamp s =
      { advanceTo stamp s with
        ula := { (advanceTo stamp s).ula with fb := (videoFetch addr raw stamp s).ula.fb } } := by
  unfold videoFetch
  simp only
  split <;> rfl

@[simp] theorem videoFetch_regs (addr : Word) (raw : Byte) (n : Nat) (s : State) :
    (videoFetch addr raw n s).regs = s.regs := by
  rw [videoFetch_cases]; simp
@[simp] theorem videoFetch_clk (addr : Word) (raw : Byte) (n : Nat) (s : State) :
    (videoFetch addr raw n s).clk = s.clk := by
  rw [videoFetch_cases]; simp
@[simp] theorem videoFetch_rom (addr : Word) (raw : Byte) (n : Nat) (s : State) :
    (videoFetch addr raw n s).rom = s.rom := by
  rw [videoFetch_cases]; simp
@[simp] theorem videoFetch_ram (addr : Word) (raw : Byte) (n : Nat) (s : State) :
    (videoFetch addr raw n s).ram = s.ram := by
  rw [videoFetch_cases]; simp
@[simp] theorem videoFetch_busOut (addr : Word) (raw : Byte) (n : Nat) (s : State) :
    (videoFetch addr raw n s).busOut = s.busOut := by
  rw [videoFetch_cases]; simp
@[simp] theorem videoFetch_frameCounter (addr : Word) (raw : Byte) (n : Nat) (s : State) :
    (videoFetch addr raw n s).frameCounter = s.frameCounter := by
  rw [videoFetch_cases]; simp
@[simp] theorem videoFetch_freeIx (addr : Word) (raw : Byte) (n : Nat) (s : State) :
    (videoFetch addr raw n s).freeIx = s.freeIx := by
  rw [videoFetch_cases]; simp
@[simp] theorem videoFetch_cfg (addr : Word) (raw : Byte) (n : Nat) (s : State) :
    (videoFetch addr raw n s).cfg = s.cfg := by
  rw [videoFetch_cases]; simp
@[simp] theorem videoFetch_ula_nmiGenOn (addr : Word) (raw : Byte) (n : Nat) (s : State) :
    (videoFetch addr raw n s).ula.nmiGenOn = s.ula.nmiGenOn := by
  rw [videoFetch_cases]; simp
@[simp] theorem videoFetch_ula_vsync (addr : Word) (raw : Byte) (n : Nat) (s : State) :
    (videoFetch addr raw n s).ula.vsync = s.ula.vsync := by
  rw [videoFetch_cases]; simp
@[simp] theorem videoFetch_ula_frameComplete (addr : Word) (raw : Byte) (n : Nat) (s : State) :
    (videoFetch addr raw n s).ula.frameComplete = s.ula.frameComplete := by
  rw [videoFetch_cases]; simp
@[simp] theorem videoFetch_ula_fbOut (addr : Word) (raw : Byte) (n : Nat) (s : State) :
    (videoFetch addr raw n s).ula.fbOut = s.ula.fbOut := by
  rw [videoFetch_cases]; simp
@[simp] theorem videoFetch_ula_keys (addr : Word) (raw : Byte) (n : Nat) (s : State) :
    (videoFetch addr raw n s).ula.keys = s.ula.keys := by
  rw [videoFetch_cases]; simp

/-! ### Fetching (R91, R92) -/

@[simp] theorem fetchM1_regs (k : Nat) (s : State) :
    (fetchM1 k s).regs = { s.regs with r := bumpR s.regs.r, pc := s.regs.pc + 1 } := by
  simp [fetchM1]
@[simp] theorem fetchM1_clk (k : Nat) (s : State) :
    (fetchM1 k s).clk = { s.clk with stepM1 := s.clk.stepM1 + 1, stepR := s.regs.r } := by
  simp [fetchM1]
@[simp] theorem fetchM1_rom (k : Nat) (s : State) : (fetchM1 k s).rom = s.rom := by
  simp [fetchM1]
@[simp] theorem fetchM1_ram (k : Nat) (s : State) : (fetchM1 k s).ram = s.ram := by
  simp [fetchM1]
@[simp] theorem fetchM1_busOut (k : Nat) (s : State) : (fetchM1 k s).busOut = s.busOut := by
  simp [fetchM1]
@[simp] theorem fetchM1_frameCounter (k : Nat) (s : State) : (fetchM1 k s).frameCounter = s.frameCounter := by
  simp [fetchM1]
@[simp] theorem fetchM1_freeIx (k : Nat) (s : State) : (fetchM1 k s).freeIx = s.freeIx := by
  simp [fetchM1]
@[simp] theorem fetchM1_cfg (k : Nat) (s : State) : (fetchM1 k s).cfg = s.cfg := by
  simp [fetchM1]

/-! ### The I/O bus (R95 to R98) -/

/-- A read on this machine (R96, R97, R517): an even port is the ULA's, an odd port the floating bus. -/
theorem ioRead_eq (port : Word) (stamp : Nat) (s : State) :
    ioRead port stamp s =
      if port.getLsbD 0 then (s.cfg.floatingBus, advanceTo stamp s)
      else (keyboardByte (advanceTo stamp s) port, startVsync (advanceTo stamp s)) := by
  have h255 : ∀ b : Byte, b &&& 0xFF = b := by decide
  cases h : port.getLsbD 0
  · have e : ioDevices.filter (·.reads port) = [.ulaRead] := by
      simp only [ioDevices, List.filter, IoDevice.reads, h, Bool.not_false]
    simp only [ioRead, e, ioReadAll, IoDevice.read, h255]
    rfl
  · have e : ioDevices.filter (·.reads port) = [] := by
      simp only [ioDevices, List.filter, IoDevice.reads, h, Bool.not_true]
    simp only [ioRead, e]
    simp

/-- A write on this machine (R96, R98, R518, R519): always the ULA's. -/
theorem ioWrite_eq (port : Word) (v : Byte) (stamp : Nat) (s : State) :
    ioWrite port v stamp s =
      { switchNmiGen port (endVsync (advanceTo stamp s)) with
        busOut := some { port := port, value := v, stamp := stamp } } := by
  simp [ioWrite, ioDevices, IoDevice.writes, IoDevice.write]

/-- VSYNC start changes the ULA only. -/
theorem startVsync_frame (s : State) : startVsync s = { s with ula := (startVsync s).ula } := by
  unfold startVsync; split <;> rfl

/-- VSYNC end changes the ULA only. -/
theorem endVsync_frame (s : State) : endVsync s = { s with ula := (endVsync s).ula } := by
  unfold endVsync; split <;> rfl

@[simp] theorem ioRead_regs (port : Word) (n : Nat) (s : State) : (ioRead port n s).2.regs = s.regs := by
  rw [ioRead_eq]; split
  · simp
  · rw [startVsync_frame]; simp
@[simp] theorem ioRead_clk (port : Word) (n : Nat) (s : State) : (ioRead port n s).2.clk = s.clk := by
  rw [ioRead_eq]; split
  · simp
  · rw [startVsync_frame]; simp
@[simp] theorem ioRead_rom (port : Word) (n : Nat) (s : State) : (ioRead port n s).2.rom = s.rom := by
  rw [ioRead_eq]; split
  · simp
  · rw [startVsync_frame]; simp
@[simp] theorem ioRead_ram (port : Word) (n : Nat) (s : State) : (ioRead port n s).2.ram = s.ram := by
  rw [ioRead_eq]; split
  · simp
  · rw [startVsync_frame]; simp
@[simp] theorem ioRead_busOut (port : Word) (n : Nat) (s : State) : (ioRead port n s).2.busOut = s.busOut := by
  rw [ioRead_eq]; split
  · simp
  · rw [startVsync_frame]; simp
@[simp] theorem ioRead_frameCounter (port : Word) (n : Nat) (s : State) : (ioRead port n s).2.frameCounter = s.frameCounter := by
  rw [ioRead_eq]; split
  · simp
  · rw [startVsync_frame]; simp
@[simp] theorem ioRead_freeIx (port : Word) (n : Nat) (s : State) : (ioRead port n s).2.freeIx = s.freeIx := by
  rw [ioRead_eq]; split
  · simp
  · rw [startVsync_frame]; simp
@[simp] theorem ioRead_cfg (port : Word) (n : Nat) (s : State) : (ioRead port n s).2.cfg = s.cfg := by
  rw [ioRead_eq]; split
  · simp
  · rw [startVsync_frame]; simp
@[simp] theorem ioWrite_regs (port : Word) (v : Byte) (n : Nat) (s : State) : (ioWrite port v n s).regs = s.regs := by
  rw [ioWrite_eq, endVsync_frame]; simp [switchNmiGen]
@[simp] theorem ioWrite_clk (port : Word) (v : Byte) (n : Nat) (s : State) : (ioWrite port v n s).clk = s.clk := by
  rw [ioWrite_eq, endVsync_frame]; simp [switchNmiGen]
@[simp] theorem ioWrite_rom (port : Word) (v : Byte) (n : Nat) (s : State) : (ioWrite port v n s).rom = s.rom := by
  rw [ioWrite_eq, endVsync_frame]; simp [switchNmiGen]
@[simp] theorem ioWrite_ram (port : Word) (v : Byte) (n : Nat) (s : State) : (ioWrite port v n s).ram = s.ram := by
  rw [ioWrite_eq, endVsync_frame]; simp [switchNmiGen]
@[simp] theorem ioWrite_frameCounter (port : Word) (v : Byte) (n : Nat) (s : State) : (ioWrite port v n s).frameCounter = s.frameCounter := by
  rw [ioWrite_eq, endVsync_frame]; simp [switchNmiGen]
@[simp] theorem ioWrite_freeIx (port : Word) (v : Byte) (n : Nat) (s : State) : (ioWrite port v n s).freeIx = s.freeIx := by
  rw [ioWrite_eq, endVsync_frame]; simp [switchNmiGen]
@[simp] theorem ioWrite_cfg (port : Word) (v : Byte) (n : Nat) (s : State) : (ioWrite port v n s).cfg = s.cfg := by
  rw [ioWrite_eq, endVsync_frame]; simp [switchNmiGen]

end Sys2Proof.Machine
end

