-- ==== Sys2Proof/Laws/Ops.lean ====
section
/-! SUPPORT. The shared operations: one lemma each that says everything the operation does, so that a proof about an
instruction, an interrupt or a step cites it and never unfolds the operation. -/

namespace Sys2Proof.Machine

/-! ### Words in memory and the stack (R89, R90) -/

theorem memWrite16_eq (s : State) (addr v : Word) :
    memWrite16 s addr v =
      { s with ram := storeRam s.cfg (storeRam s.cfg s.ram addr (loByte v)) (addr + 1) (hiByte v) } := by
  simp only [memWrite16, memWrite_eq]

theorem push16_eq (v : Word) (s : State) :
    push16 v s =
      { s with
        regs := { s.regs with sp := s.regs.sp - 2 }
        ram := storeRam s.cfg (storeRam s.cfg s.ram (s.regs.sp - 1) (hiByte v)) (s.regs.sp - 2) (loByte v) } := by
  simp only [push16, memWrite_eq, State.withRegs]

/-! ### The end of an instruction (R54, R61) -/

theorem endPlain_eq (n : Nat) (s : State) : endPlain n s = .next (afterQuiet n s.regs s) := rfl
theorem endFlags_eq (n : Nat) (s : State) : endFlags n s = .next (afterFlags n s.regs s) := rfl

/-! ### Fetching (R91, R92) -/

theorem skipBytes_zero (s : State) : skipBytes 0 s = s := by
  simp [skipBytes, State.withRegs]

/-- An M1 leaves of the control bits all but `nmi_pending`, which the line timer may set. -/
theorem fetchM1_ctl (k : Nat) (s : State) :
    (fetchM1 k s).ctl = { s.ctl with nmiPending := (fetchM1 k s).ctl.nmiPending } := by
  have h : (fetchM1 k s).ctl = (advanceTo (s.clk.cycles + 4 * k) s).ctl := by
    show (videoFetch _ _ _ s).ctl = _
    rw [videoFetch_cases]
  rw [h]
  unfold advanceTo
  rw [boundaries_ctl]

/-- A fetch is one or two M1 cycles and the operand bytes. -/
theorem fetchDecoded_cases (d : Decoded) (s : State) :
    fetchDecoded d s = skipBytes (d.len - d.m1s) (fetchM1 0 s) ∨
      fetchDecoded d s = skipBytes (d.len - d.m1s) (fetchM1 1 (fetchM1 0 s)) := by
  unfold fetchDecoded fetchRest
  split
  · exact .inr rfl
  · exact .inl rfl

/-! ### Taking an interrupt (R506) and returning from one (R401, R402) -/

theorem enterInterrupt_eq (entry : State → Word) (n : Nat) (s : State) :
    ∃ u target,
      u = { s with
        regs := { s.regs with sp := s.regs.sp - 2, r := bumpR s.regs.r }
        ctl := { s.ctl with halted := false }
        clk := { s.clk with stepM1 := s.clk.stepM1 + 1, stepR := s.regs.r }
        ram := storeRam s.cfg (storeRam s.cfg s.ram (s.regs.sp - 1) (hiByte s.regs.pc)) (s.regs.sp - 2)
          (loByte s.regs.pc) } ∧
      target = entry u ∧
      enterInterrupt entry n s = afterQuiet n { u.regs with pc := target, wz := target } u := by
  refine ⟨_, _, rfl, rfl, ?_⟩
  simp only [enterInterrupt, push16_eq, refreshM1]
  rfl

theorem returnFromInterrupt_eq (s : State) :
    returnFromInterrupt s =
      { s with
        regs := { s.regs with sp := s.regs.sp + 2, pc := popValue s, wz := popValue s }
        ctl := { s.ctl with iff1 := s.ctl.iff2 } } := rfl

/-! ### Repeating (R260) -/

/-- Under `as_final` an iteration that repeats leaves its flags; otherwise the bits of the mask are free and the counter
moves on. -/
theorem repeatFlags_cases (mask : Byte) (s : State) :
    (s.cfg.blockRepeatFlags = .asFinal ∧ repeatFlags mask s = s) ∨
      (s.cfg.blockRepeatFlags = .anyValue ∧
        repeatFlags mask s =
          { s with
            regs := { s.regs with
              f := (s.regs.f &&& ~~~mask) ||| (Config.freeRepeatFlags s.freeIx &&& mask) }
            freeIx := s.freeIx + 1 }) := by
  cases h : s.cfg.blockRepeatFlags
  · left
    simp only [repeatFlags, h, repeatF, putF, State.withRegs, true_and]
  · right
    simp only [repeatFlags, h, repeatF, putF, State.withRegs, true_and]

/-- The bits outside the mask stay. -/
theorem repeatF_keeps (mode : BlockRepeatFlags) (mask f : Byte) (ix : Nat) :
    repeatF mode mask f ix &&& ~~~mask = f &&& ~~~mask := by
  cases mode
  · rfl
  · ext i hi
    simp only [repeatF, BitVec.getElem_and, BitVec.getElem_or, BitVec.getElem_not]
    cases f[i] <;> cases mask[i] <;> simp

theorem endMemRepeat_cases (again : Bool) (s : State) :
    (again = true ∧ endMemRepeat again s =
      endFlags 21 (setWZ (s.regs.pc - 2 + 1) (jumpTo (s.regs.pc - 2) (repeatFlags memRepeatMask s)))) ∨
      (again = false ∧ endMemRepeat again s = endFlags 16 s) := by
  cases again
  · exact .inr ⟨rfl, rfl⟩
  · exact .inl ⟨rfl, rfl⟩

theorem endIoRepeat_cases (again : Bool) (s : State) :
    (again = true ∧ endIoRepeat again s =
      endFlags 21 (jumpTo (s.regs.pc - 2) (repeatFlags ioRepeatMask s))) ∨
      (again = false ∧ endIoRepeat again s = endFlags 16 s) := by
  cases again
  · exact .inr ⟨rfl, rfl⟩
  · exact .inl ⟨rfl, rfl⟩

theorem moveBlock_eq (step : Word) (s : State) :
    moveBlock step s =
      { s with
        regs := setHL (s.regs.hl + step) (setDE (s.regs.de + step) (setBC (s.regs.bc - 1)
          { s.regs with f := ldBlockF (memRead s s.regs.hl) s.regs.a s.regs.f (s.regs.bc - 1) }))
        ram := storeRam s.cfg s.ram s.regs.de (memRead s s.regs.hl) } := by
  simp only [moveBlock, memWrite_eq, State.withRegs]

theorem compareBlock_eq (step : Word) (s : State) :
    compareBlock step s =
      { s with
        regs := setHL (s.regs.hl + step) (setBC (s.regs.bc - 1)
          { s.regs with
            f := cpBlockF s.regs.a (memRead s s.regs.hl) s.regs.f (s.regs.bc - 1)
            wz := s.regs.wz + step }) } := rfl

theorem inBlock_eq (step : Word) (s : State) :
    ∃ v u, ioRead s.regs.bc (s.clk.cycles + 9) s = (v, u) ∧
      inBlock step s =
        { u with
          regs := { setHL (s.regs.hl + step) s.regs with
            b := s.regs.b - 1
            wz := s.regs.bc + step
            f := ioBlockF v (v.toNat + (s.regs.c + loByte step).toNat) (s.regs.b - 1) }
          ram := storeRam u.cfg u.ram s.regs.hl v } := by
  refine ⟨(ioRead s.regs.bc (s.clk.cycles + 9) s).1, (ioRead s.regs.bc (s.clk.cycles + 9) s).2, rfl, ?_⟩
  simp only [inBlock, memWrite_eq, State.withRegs, portBC, ioRead_regs]

/-! ### The prefix rows (R137) -/

/-- The meaning that follows a prefix is the instruction's own. -/
theorem execDecoded_eq_exec (i : Instr) (s : State) (h : isPrefixRow i = false) : execDecoded i s = exec i s := by
  cases i <;> first | rfl | cases h

theorem isPrefixRow_decodeCB (op : Byte) : isPrefixRow (decodeCB op) = false := by
  revert op
  decide

theorem isPrefixRow_decodeED (op b1 b2 : Byte) : isPrefixRow (decodeED op b1 b2).1 = false := by
  have h0 : ∀ o : Byte, isPrefixRow (decodeED o 0 0).1 = false := by decide
  rw [← h0 op]
  unfold decodeED
  simp only []
  repeat' (first | split | rfl)

theorem isPrefixRow_decodeXYCB (xy : XY) (d op : Byte) : isPrefixRow (decodeXYCB xy d op) = false := by
  have h0 : ∀ o : Byte, isPrefixRow (decodeXYCB .ix 0 o) = false := by decide
  rw [← h0 op]
  unfold decodeXYCB
  simp only []
  repeat' (first | split | rfl)

/-! ### The end of a step (R504, R516, R520) -/

@[simp] theorem finishStep_regs (s : State) : (finishStep s).regs = s.regs := by simp [finishStep]
@[simp] theorem finishStep_clk (s : State) : (finishStep s).clk = s.clk := by simp [finishStep]
@[simp] theorem finishStep_rom (s : State) : (finishStep s).rom = s.rom := by simp [finishStep]
@[simp] theorem finishStep_ram (s : State) : (finishStep s).ram = s.ram := by simp [finishStep]
@[simp] theorem finishStep_busOut (s : State) : (finishStep s).busOut = s.busOut := by simp [finishStep]
@[simp] theorem finishStep_cfg (s : State) : (finishStep s).cfg = s.cfg := by simp [finishStep]
@[simp] theorem finishStep_freeIx (s : State) : (finishStep s).freeIx = s.freeIx := by simp [finishStep]
@[simp] theorem finishStep_frameCounter (s : State) : (finishStep s).frameCounter = s.frameCounter := by
  simp [finishStep]

/-- The end of a step changes of the control bits only `int_line` and `nmi_pending`. -/
theorem finishStep_ctl (s : State) :
    (finishStep s).ctl =
      { s.ctl with intLine := intLineLevel s, nmiPending := (finishStep s).ctl.nmiPending } := by
  unfold finishStep advanceBefore
  rw [boundaries_ctl]

@[simp] theorem finishStep_iff1 (s : State) : (finishStep s).ctl.iff1 = s.ctl.iff1 := by rw [finishStep_ctl]
@[simp] theorem finishStep_halted (s : State) : (finishStep s).ctl.halted = s.ctl.halted := by rw [finishStep_ctl]
@[simp] theorem finishStep_intReq (s : State) : (finishStep s).ctl.intReq = s.ctl.intReq := by rw [finishStep_ctl]
@[simp] theorem finishStep_intLine (s : State) : (finishStep s).ctl.intLine = intLineLevel s := by rw [finishStep_ctl]
@[simp] theorem finishStep_nmiGenOn (s : State) : (finishStep s).ula.nmiGenOn = s.ula.nmiGenOn := by simp [finishStep]

/-- With the NMI generator off, the end of a step requests no NMI (R520). -/
theorem finishStep_nmiPending_of_off {s : State} (h : s.ula.nmiGenOn = false) :
    (finishStep s).ctl.nmiPending = s.ctl.nmiPending := by
  simp [finishStep, advanceBefore, boundaries_ctl, h]

/-- A step that completes is the end of the step on some state. -/
theorem finishOutcome_next {o : Host.Outcome State Fault Refusal} {t : State} (h : finishOutcome o = .next t) :
    ∃ u, o = .next u ∧ t = finishStep u := by
  cases o with
  | next u =>
    injection h with h
    exact ⟨u, rfl, h.symm⟩
  | fault r => cases h
  | refused r => cases h

/-! ### A program run (R608) -/

theorem runProgram_of_ended {s : State} (h : programEnded s = true) (n : Nat) : runProgram n s = .ended s := by
  cases n <;> simp [runProgram, h]

theorem runProgram_zero_of_not_ended {s : State} (h : programEnded s = false) : runProgram 0 s = .running s := by
  simp [runProgram, h]

theorem runProgram_succ_of_next {s t : State} (h : programEnded s = false) (hs : step s = .next t) (n : Nat) :
    runProgram (n + 1) s = runProgram n t := by
  simp [runProgram, h, hs]

theorem runProgram_succ_of_refused {s : State} {r : Refusal} (h : programEnded s = false) (hs : step s = .refused r)
    (n : Nat) : runProgram (n + 1) s = .stopped r := by
  simp [runProgram, h, hs]

/-! ### Construction and reset (R600, R602) -/

theorem memWf_construct (cfg : Config) : (State.construct cfg).memWf := by
  simp [State.construct, State.memWf, Memory.wf, Pixels.wf]

theorem memWf_reset : State.reset.memWf := memWf_construct Config.default

theorem memWf_hostReset {s : State} (h : s.memWf) : (hostReset s).memWf := by
  have hfill := Memory.wf_fill s.cfg.ramPowerOnFill s.cfg.ramSize.bytes Config.ramClearValue
  refine ⟨h.1, ?_, by simp [hostReset, Pixels.wf], by simp [hostReset, Pixels.wf]⟩
  cases hc : s.cfg.resetClearsRam
  · simpa [hostReset, hc] using h.2.1
  · simpa [hostReset, hc] using hfill

end Sys2Proof.Machine
end

