-- ==== Sys2Proof/Laws/PerInstr.lean ====
section
/-! SUPPORT. The family of laws made once per instruction: the shape of its encoding. -/

namespace Sys2Proof.Laws

/-- The encoding of an instruction is 1 to 4 bytes long (R120). -/
def EncodeShape.Statement (i : Instr) : Prop := 1 ≤ (encode i).length ∧ (encode i).length ≤ 4

theorem EncodeShape.nop : EncodeShape.Statement .nop := ⟨Nat.le_of_ble_eq_true rfl, Nat.le_of_ble_eq_true rfl⟩
theorem EncodeShape.exAfAf : EncodeShape.Statement .exAfAf := ⟨Nat.le_of_ble_eq_true rfl, Nat.le_of_ble_eq_true rfl⟩
theorem EncodeShape.djnz (e : Byte) : EncodeShape.Statement (.djnz e) :=
  ⟨Nat.le_of_ble_eq_true rfl, Nat.le_of_ble_eq_true rfl⟩
theorem EncodeShape.jr (e : Byte) : EncodeShape.Statement (.jr e) :=
  ⟨Nat.le_of_ble_eq_true rfl, Nat.le_of_ble_eq_true rfl⟩
theorem EncodeShape.jrCc (cc : Cond4) (e : Byte) : EncodeShape.Statement (.jrCc cc e) :=
  ⟨Nat.le_of_ble_eq_true rfl, Nat.le_of_ble_eq_true rfl⟩
theorem EncodeShape.ldDdNn (dd : RP) (nn : Word) : EncodeShape.Statement (.ldDdNn dd nn) :=
  ⟨Nat.le_of_ble_eq_true rfl, Nat.le_of_ble_eq_true rfl⟩
theorem EncodeShape.addHlSs (ss : RP) : EncodeShape.Statement (.addHlSs ss) :=
  ⟨Nat.le_of_ble_eq_true rfl, Nat.le_of_ble_eq_true rfl⟩
theorem EncodeShape.ldMemBcA : EncodeShape.Statement .ldMemBcA :=
  ⟨Nat.le_of_ble_eq_true rfl, Nat.le_of_ble_eq_true rfl⟩
theorem EncodeShape.ldMemDeA : EncodeShape.Statement .ldMemDeA :=
  ⟨Nat.le_of_ble_eq_true rfl, Nat.le_of_ble_eq_true rfl⟩
theorem EncodeShape.ldMemNnHl (nn : Word) : EncodeShape.Statement (.ldMemNnHl nn) :=
  ⟨Nat.le_of_ble_eq_true rfl, Nat.le_of_ble_eq_true rfl⟩
theorem EncodeShape.ldMemNnA (nn : Word) : EncodeShape.Statement (.ldMemNnA nn) :=
  ⟨Nat.le_of_ble_eq_true rfl, Nat.le_of_ble_eq_true rfl⟩
theorem EncodeShape.ldAMemBc : EncodeShape.Statement .ldAMemBc :=
  ⟨Nat.le_of_ble_eq_true rfl, Nat.le_of_ble_eq_true rfl⟩
theorem EncodeShape.ldAMemDe : EncodeShape.Statement .ldAMemDe :=
  ⟨Nat.le_of_ble_eq_true rfl, Nat.le_of_ble_eq_true rfl⟩
theorem EncodeShape.ldHlMemNn (nn : Word) : EncodeShape.Statement (.ldHlMemNn nn) :=
  ⟨Nat.le_of_ble_eq_true rfl, Nat.le_of_ble_eq_true rfl⟩
theorem EncodeShape.ldAMemNn (nn : Word) : EncodeShape.Statement (.ldAMemNn nn) :=
  ⟨Nat.le_of_ble_eq_true rfl, Nat.le_of_ble_eq_true rfl⟩
theorem EncodeShape.incSs (ss : RP) : EncodeShape.Statement (.incSs ss) :=
  ⟨Nat.le_of_ble_eq_true rfl, Nat.le_of_ble_eq_true rfl⟩
theorem EncodeShape.decSs (ss : RP) : EncodeShape.Statement (.decSs ss) :=
  ⟨Nat.le_of_ble_eq_true rfl, Nat.le_of_ble_eq_true rfl⟩
theorem EncodeShape.incR (r : Reg8) : EncodeShape.Statement (.incR r) :=
  ⟨Nat.le_of_ble_eq_true rfl, Nat.le_of_ble_eq_true rfl⟩
theorem EncodeShape.incMemHl : EncodeShape.Statement .incMemHl :=
  ⟨Nat.le_of_ble_eq_true rfl, Nat.le_of_ble_eq_true rfl⟩
theorem EncodeShape.decR (r : Reg8) : EncodeShape.Statement (.decR r) :=
  ⟨Nat.le_of_ble_eq_true rfl, Nat.le_of_ble_eq_true rfl⟩
theorem EncodeShape.decMemHl : EncodeShape.Statement .decMemHl :=
  ⟨Nat.le_of_ble_eq_true rfl, Nat.le_of_ble_eq_true rfl⟩
theorem EncodeShape.ldRN (r : Reg8) (n : Byte) : EncodeShape.Statement (.ldRN r n) :=
  ⟨Nat.le_of_ble_eq_true rfl, Nat.le_of_ble_eq_true rfl⟩
theorem EncodeShape.ldMemHlN (n : Byte) : EncodeShape.Statement (.ldMemHlN n) :=
  ⟨Nat.le_of_ble_eq_true rfl, Nat.le_of_ble_eq_true rfl⟩
theorem EncodeShape.rlca : EncodeShape.Statement .rlca := ⟨Nat.le_of_ble_eq_true rfl, Nat.le_of_ble_eq_true rfl⟩
theorem EncodeShape.rrca : EncodeShape.Statement .rrca := ⟨Nat.le_of_ble_eq_true rfl, Nat.le_of_ble_eq_true rfl⟩
theorem EncodeShape.rla : EncodeShape.Statement .rla := ⟨Nat.le_of_ble_eq_true rfl, Nat.le_of_ble_eq_true rfl⟩
theorem EncodeShape.rra : EncodeShape.Statement .rra := ⟨Nat.le_of_ble_eq_true rfl, Nat.le_of_ble_eq_true rfl⟩
theorem EncodeShape.daa : EncodeShape.Statement .daa := ⟨Nat.le_of_ble_eq_true rfl, Nat.le_of_ble_eq_true rfl⟩
theorem EncodeShape.cpl : EncodeShape.Statement .cpl := ⟨Nat.le_of_ble_eq_true rfl, Nat.le_of_ble_eq_true rfl⟩
theorem EncodeShape.scf : EncodeShape.Statement .scf := ⟨Nat.le_of_ble_eq_true rfl, Nat.le_of_ble_eq_true rfl⟩
theorem EncodeShape.ccf : EncodeShape.Statement .ccf := ⟨Nat.le_of_ble_eq_true rfl, Nat.le_of_ble_eq_true rfl⟩
theorem EncodeShape.ldRR (r : Reg8) (src : Reg8) : EncodeShape.Statement (.ldRR r src) :=
  ⟨Nat.le_of_ble_eq_true rfl, Nat.le_of_ble_eq_true rfl⟩
theorem EncodeShape.ldRMemHl (r : Reg8) : EncodeShape.Statement (.ldRMemHl r) :=
  ⟨Nat.le_of_ble_eq_true rfl, Nat.le_of_ble_eq_true rfl⟩
theorem EncodeShape.ldMemHlR (r : Reg8) : EncodeShape.Statement (.ldMemHlR r) :=
  ⟨Nat.le_of_ble_eq_true rfl, Nat.le_of_ble_eq_true rfl⟩
theorem EncodeShape.halt : EncodeShape.Statement .halt := ⟨Nat.le_of_ble_eq_true rfl, Nat.le_of_ble_eq_true rfl⟩
theorem EncodeShape.addAR (r : Reg8) : EncodeShape.Statement (.addAR r) :=
  ⟨Nat.le_of_ble_eq_true rfl, Nat.le_of_ble_eq_true rfl⟩
theorem EncodeShape.addAMemHl : EncodeShape.Statement .addAMemHl :=
  ⟨Nat.le_of_ble_eq_true rfl, Nat.le_of_ble_eq_true rfl⟩
theorem EncodeShape.adcAR (r : Reg8) : EncodeShape.Statement (.adcAR r) :=
  ⟨Nat.le_of_ble_eq_true rfl, Nat.le_of_ble_eq_true rfl⟩
theorem EncodeShape.adcAMemHl : EncodeShape.Statement .adcAMemHl :=
  ⟨Nat.le_of_ble_eq_true rfl, Nat.le_of_ble_eq_true rfl⟩
theorem EncodeShape.subR (r : Reg8) : EncodeShape.Statement (.subR r) :=
  ⟨Nat.le_of_ble_eq_true rfl, Nat.le_of_ble_eq_true rfl⟩
theorem EncodeShape.subMemHl : EncodeShape.Statement .subMemHl :=
  ⟨Nat.le_of_ble_eq_true rfl, Nat.le_of_ble_eq_true rfl⟩
theorem EncodeShape.sbcAR (r : Reg8) : EncodeShape.Statement (.sbcAR r) :=
  ⟨Nat.le_of_ble_eq_true rfl, Nat.le_of_ble_eq_true rfl⟩
theorem EncodeShape.sbcAMemHl : EncodeShape.Statement .sbcAMemHl :=
  ⟨Nat.le_of_ble_eq_true rfl, Nat.le_of_ble_eq_true rfl⟩
theorem EncodeShape.andR (r : Reg8) : EncodeShape.Statement (.andR r) :=
  ⟨Nat.le_of_ble_eq_true rfl, Nat.le_of_ble_eq_true rfl⟩
theorem EncodeShape.andMemHl : EncodeShape.Statement .andMemHl :=
  ⟨Nat.le_of_ble_eq_true rfl, Nat.le_of_ble_eq_true rfl⟩
theorem EncodeShape.xorR (r : Reg8) : EncodeShape.Statement (.xorR r) :=
  ⟨Nat.le_of_ble_eq_true rfl, Nat.le_of_ble_eq_true rfl⟩
theorem EncodeShape.xorMemHl : EncodeShape.Statement .xorMemHl :=
  ⟨Nat.le_of_ble_eq_true rfl, Nat.le_of_ble_eq_true rfl⟩
theorem EncodeShape.orR (r : Reg8) : EncodeShape.Statement (.orR r) :=
  ⟨Nat.le_of_ble_eq_true rfl, Nat.le_of_ble_eq_true rfl⟩
theorem EncodeShape.orMemHl : EncodeShape.Statement .orMemHl := ⟨Nat.le_of_ble_eq_true rfl, Nat.le_of_ble_eq_true rfl⟩
theorem EncodeShape.cpR (r : Reg8) : EncodeShape.Statement (.cpR r) :=
  ⟨Nat.le_of_ble_eq_true rfl, Nat.le_of_ble_eq_true rfl⟩
theorem EncodeShape.cpMemHl : EncodeShape.Statement .cpMemHl := ⟨Nat.le_of_ble_eq_true rfl, Nat.le_of_ble_eq_true rfl⟩
theorem EncodeShape.retCc (cc : Cond) : EncodeShape.Statement (.retCc cc) :=
  ⟨Nat.le_of_ble_eq_true rfl, Nat.le_of_ble_eq_true rfl⟩
theorem EncodeShape.popQq (qq : RP2) : EncodeShape.Statement (.popQq qq) :=
  ⟨Nat.le_of_ble_eq_true rfl, Nat.le_of_ble_eq_true rfl⟩
theorem EncodeShape.ret : EncodeShape.Statement .ret := ⟨Nat.le_of_ble_eq_true rfl, Nat.le_of_ble_eq_true rfl⟩
theorem EncodeShape.exx : EncodeShape.Statement .exx := ⟨Nat.le_of_ble_eq_true rfl, Nat.le_of_ble_eq_true rfl⟩
theorem EncodeShape.jpHl : EncodeShape.Statement .jpHl := ⟨Nat.le_of_ble_eq_true rfl, Nat.le_of_ble_eq_true rfl⟩
theorem EncodeShape.ldSpHl : EncodeShape.Statement .ldSpHl := ⟨Nat.le_of_ble_eq_true rfl, Nat.le_of_ble_eq_true rfl⟩
theorem EncodeShape.jpCcNn (cc : Cond) (nn : Word) : EncodeShape.Statement (.jpCcNn cc nn) :=
  ⟨Nat.le_of_ble_eq_true rfl, Nat.le_of_ble_eq_true rfl⟩
theorem EncodeShape.jpNn (nn : Word) : EncodeShape.Statement (.jpNn nn) :=
  ⟨Nat.le_of_ble_eq_true rfl, Nat.le_of_ble_eq_true rfl⟩
theorem EncodeShape.outNA (n : Byte) : EncodeShape.Statement (.outNA n) :=
  ⟨Nat.le_of_ble_eq_true rfl, Nat.le_of_ble_eq_true rfl⟩
theorem EncodeShape.inAN (n : Byte) : EncodeShape.Statement (.inAN n) :=
  ⟨Nat.le_of_ble_eq_true rfl, Nat.le_of_ble_eq_true rfl⟩
theorem EncodeShape.exSpHl : EncodeShape.Statement .exSpHl := ⟨Nat.le_of_ble_eq_true rfl, Nat.le_of_ble_eq_true rfl⟩
theorem EncodeShape.exDeHl : EncodeShape.Statement .exDeHl := ⟨Nat.le_of_ble_eq_true rfl, Nat.le_of_ble_eq_true rfl⟩
theorem EncodeShape.di : EncodeShape.Statement .di := ⟨Nat.le_of_ble_eq_true rfl, Nat.le_of_ble_eq_true rfl⟩
theorem EncodeShape.ei : EncodeShape.Statement .ei := ⟨Nat.le_of_ble_eq_true rfl, Nat.le_of_ble_eq_true rfl⟩
theorem EncodeShape.callCcNn (cc : Cond) (nn : Word) : EncodeShape.Statement (.callCcNn cc nn) :=
  ⟨Nat.le_of_ble_eq_true rfl, Nat.le_of_ble_eq_true rfl⟩
theorem EncodeShape.pushQq (qq : RP2) : EncodeShape.Statement (.pushQq qq) :=
  ⟨Nat.le_of_ble_eq_true rfl, Nat.le_of_ble_eq_true rfl⟩
theorem EncodeShape.callNn (nn : Word) : EncodeShape.Statement (.callNn nn) :=
  ⟨Nat.le_of_ble_eq_true rfl, Nat.le_of_ble_eq_true rfl⟩
theorem EncodeShape.addAN (n : Byte) : EncodeShape.Statement (.addAN n) :=
  ⟨Nat.le_of_ble_eq_true rfl, Nat.le_of_ble_eq_true rfl⟩
theorem EncodeShape.adcAN (n : Byte) : EncodeShape.Statement (.adcAN n) :=
  ⟨Nat.le_of_ble_eq_true rfl, Nat.le_of_ble_eq_true rfl⟩
theorem EncodeShape.subN (n : Byte) : EncodeShape.Statement (.subN n) :=
  ⟨Nat.le_of_ble_eq_true rfl, Nat.le_of_ble_eq_true rfl⟩
theorem EncodeShape.sbcAN (n : Byte) : EncodeShape.Statement (.sbcAN n) :=
  ⟨Nat.le_of_ble_eq_true rfl, Nat.le_of_ble_eq_true rfl⟩
theorem EncodeShape.andN (n : Byte) : EncodeShape.Statement (.andN n) :=
  ⟨Nat.le_of_ble_eq_true rfl, Nat.le_of_ble_eq_true rfl⟩
theorem EncodeShape.xorN (n : Byte) : EncodeShape.Statement (.xorN n) :=
  ⟨Nat.le_of_ble_eq_true rfl, Nat.le_of_ble_eq_true rfl⟩
theorem EncodeShape.orN (n : Byte) : EncodeShape.Statement (.orN n) :=
  ⟨Nat.le_of_ble_eq_true rfl, Nat.le_of_ble_eq_true rfl⟩
theorem EncodeShape.cpN (n : Byte) : EncodeShape.Statement (.cpN n) :=
  ⟨Nat.le_of_ble_eq_true rfl, Nat.le_of_ble_eq_true rfl⟩
theorem EncodeShape.rst (p : Fin 8) : EncodeShape.Statement (.rst p) :=
  ⟨Nat.le_of_ble_eq_true rfl, Nat.le_of_ble_eq_true rfl⟩
theorem EncodeShape.prefixCb : EncodeShape.Statement .prefixCb :=
  ⟨Nat.le_of_ble_eq_true rfl, Nat.le_of_ble_eq_true rfl⟩
theorem EncodeShape.prefixEd : EncodeShape.Statement .prefixEd :=
  ⟨Nat.le_of_ble_eq_true rfl, Nat.le_of_ble_eq_true rfl⟩
theorem EncodeShape.prefixDd : EncodeShape.Statement .prefixDd :=
  ⟨Nat.le_of_ble_eq_true rfl, Nat.le_of_ble_eq_true rfl⟩
theorem EncodeShape.prefixFd : EncodeShape.Statement .prefixFd :=
  ⟨Nat.le_of_ble_eq_true rfl, Nat.le_of_ble_eq_true rfl⟩
theorem EncodeShape.rlcR (r : Reg8) : EncodeShape.Statement (.rlcR r) :=
  ⟨Nat.le_of_ble_eq_true rfl, Nat.le_of_ble_eq_true rfl⟩
theorem EncodeShape.rlcMemHl : EncodeShape.Statement .rlcMemHl :=
  ⟨Nat.le_of_ble_eq_true rfl, Nat.le_of_ble_eq_true rfl⟩
theorem EncodeShape.rrcR (r : Reg8) : EncodeShape.Statement (.rrcR r) :=
  ⟨Nat.le_of_ble_eq_true rfl, Nat.le_of_ble_eq_true rfl⟩
theorem EncodeShape.rrcMemHl : EncodeShape.Statement .rrcMemHl :=
  ⟨Nat.le_of_ble_eq_true rfl, Nat.le_of_ble_eq_true rfl⟩
theorem EncodeShape.rlR (r : Reg8) : EncodeShape.Statement (.rlR r) :=
  ⟨Nat.le_of_ble_eq_true rfl, Nat.le_of_ble_eq_true rfl⟩
theorem EncodeShape.rlMemHl : EncodeShape.Statement .rlMemHl := ⟨Nat.le_of_ble_eq_true rfl, Nat.le_of_ble_eq_true rfl⟩
theorem EncodeShape.rrR (r : Reg8) : EncodeShape.Statement (.rrR r) :=
  ⟨Nat.le_of_ble_eq_true rfl, Nat.le_of_ble_eq_true rfl⟩
theorem EncodeShape.rrMemHl : EncodeShape.Statement .rrMemHl := ⟨Nat.le_of_ble_eq_true rfl, Nat.le_of_ble_eq_true rfl⟩
theorem EncodeShape.slaR (r : Reg8) : EncodeShape.Statement (.slaR r) :=
  ⟨Nat.le_of_ble_eq_true rfl, Nat.le_of_ble_eq_true rfl⟩
theorem EncodeShape.slaMemHl : EncodeShape.Statement .slaMemHl :=
  ⟨Nat.le_of_ble_eq_true rfl, Nat.le_of_ble_eq_true rfl⟩
theorem EncodeShape.sraR (r : Reg8) : EncodeShape.Statement (.sraR r) :=
  ⟨Nat.le_of_ble_eq_true rfl, Nat.le_of_ble_eq_true rfl⟩
theorem EncodeShape.sraMemHl : EncodeShape.Statement .sraMemHl :=
  ⟨Nat.le_of_ble_eq_true rfl, Nat.le_of_ble_eq_true rfl⟩
theorem EncodeShape.sllR (r : Reg8) : EncodeShape.Statement (.sllR r) :=
  ⟨Nat.le_of_ble_eq_true rfl, Nat.le_of_ble_eq_true rfl⟩
theorem EncodeShape.sllMemHl : EncodeShape.Statement .sllMemHl :=
  ⟨Nat.le_of_ble_eq_true rfl, Nat.le_of_ble_eq_true rfl⟩
theorem EncodeShape.srlR (r : Reg8) : EncodeShape.Statement (.srlR r) :=
  ⟨Nat.le_of_ble_eq_true rfl, Nat.le_of_ble_eq_true rfl⟩
theorem EncodeShape.srlMemHl : EncodeShape.Statement .srlMemHl :=
  ⟨Nat.le_of_ble_eq_true rfl, Nat.le_of_ble_eq_true rfl⟩
theorem EncodeShape.bitBR (bn : Fin 8) (r : Reg8) : EncodeShape.Statement (.bitBR bn r) :=
  ⟨Nat.le_of_ble_eq_true rfl, Nat.le_of_ble_eq_true rfl⟩
theorem EncodeShape.bitBMemHl (bn : Fin 8) : EncodeShape.Statement (.bitBMemHl bn) :=
  ⟨Nat.le_of_ble_eq_true rfl, Nat.le_of_ble_eq_true rfl⟩
theorem EncodeShape.resBR (bn : Fin 8) (r : Reg8) : EncodeShape.Statement (.resBR bn r) :=
  ⟨Nat.le_of_ble_eq_true rfl, Nat.le_of_ble_eq_true rfl⟩
theorem EncodeShape.resBMemHl (bn : Fin 8) : EncodeShape.Statement (.resBMemHl bn) :=
  ⟨Nat.le_of_ble_eq_true rfl, Nat.le_of_ble_eq_true rfl⟩
theorem EncodeShape.setBR (bn : Fin 8) (r : Reg8) : EncodeShape.Statement (.setBR bn r) :=
  ⟨Nat.le_of_ble_eq_true rfl, Nat.le_of_ble_eq_true rfl⟩
theorem EncodeShape.setBMemHl (bn : Fin 8) : EncodeShape.Statement (.setBMemHl bn) :=
  ⟨Nat.le_of_ble_eq_true rfl, Nat.le_of_ble_eq_true rfl⟩
theorem EncodeShape.inRC (r : Reg8) : EncodeShape.Statement (.inRC r) :=
  ⟨Nat.le_of_ble_eq_true rfl, Nat.le_of_ble_eq_true rfl⟩
theorem EncodeShape.inFC : EncodeShape.Statement .inFC := ⟨Nat.le_of_ble_eq_true rfl, Nat.le_of_ble_eq_true rfl⟩
theorem EncodeShape.outCR (r : Reg8) : EncodeShape.Statement (.outCR r) :=
  ⟨Nat.le_of_ble_eq_true rfl, Nat.le_of_ble_eq_true rfl⟩
theorem EncodeShape.outC0 : EncodeShape.Statement .outC0 := ⟨Nat.le_of_ble_eq_true rfl, Nat.le_of_ble_eq_true rfl⟩
theorem EncodeShape.sbcHlSs (ss : RP) : EncodeShape.Statement (.sbcHlSs ss) :=
  ⟨Nat.le_of_ble_eq_true rfl, Nat.le_of_ble_eq_true rfl⟩
theorem EncodeShape.adcHlSs (ss : RP) : EncodeShape.Statement (.adcHlSs ss) :=
  ⟨Nat.le_of_ble_eq_true rfl, Nat.le_of_ble_eq_true rfl⟩
theorem EncodeShape.ldMemNnDd (nn : Word) (dd : RP) : EncodeShape.Statement (.ldMemNnDd nn dd) :=
  ⟨Nat.le_of_ble_eq_true rfl, Nat.le_of_ble_eq_true rfl⟩
theorem EncodeShape.ldDdMemNn (dd : RP) (nn : Word) : EncodeShape.Statement (.ldDdMemNn dd nn) :=
  ⟨Nat.le_of_ble_eq_true rfl, Nat.le_of_ble_eq_true rfl⟩
theorem EncodeShape.neg : EncodeShape.Statement .neg := ⟨Nat.le_of_ble_eq_true rfl, Nat.le_of_ble_eq_true rfl⟩
theorem EncodeShape.negMirror (y : Fin 8) : EncodeShape.Statement (.negMirror y) :=
  ⟨Nat.le_of_ble_eq_true rfl, Nat.le_of_ble_eq_true rfl⟩
theorem EncodeShape.retn : EncodeShape.Statement .retn := ⟨Nat.le_of_ble_eq_true rfl, Nat.le_of_ble_eq_true rfl⟩
theorem EncodeShape.reti : EncodeShape.Statement .reti := ⟨Nat.le_of_ble_eq_true rfl, Nat.le_of_ble_eq_true rfl⟩
theorem EncodeShape.retnMirror (y : Fin 8) : EncodeShape.Statement (.retnMirror y) :=
  ⟨Nat.le_of_ble_eq_true rfl, Nat.le_of_ble_eq_true rfl⟩
theorem EncodeShape.im0 : EncodeShape.Statement .im0 := ⟨Nat.le_of_ble_eq_true rfl, Nat.le_of_ble_eq_true rfl⟩
theorem EncodeShape.im0Mirror4E : EncodeShape.Statement .im0Mirror4E :=
  ⟨Nat.le_of_ble_eq_true rfl, Nat.le_of_ble_eq_true rfl⟩
theorem EncodeShape.im0Mirror66 : EncodeShape.Statement .im0Mirror66 :=
  ⟨Nat.le_of_ble_eq_true rfl, Nat.le_of_ble_eq_true rfl⟩
theorem EncodeShape.im0Mirror6E : EncodeShape.Statement .im0Mirror6E :=
  ⟨Nat.le_of_ble_eq_true rfl, Nat.le_of_ble_eq_true rfl⟩
theorem EncodeShape.im1 : EncodeShape.Statement .im1 := ⟨Nat.le_of_ble_eq_true rfl, Nat.le_of_ble_eq_true rfl⟩
theorem EncodeShape.im1Mirror : EncodeShape.Statement .im1Mirror :=
  ⟨Nat.le_of_ble_eq_true rfl, Nat.le_of_ble_eq_true rfl⟩
theorem EncodeShape.im2 : EncodeShape.Statement .im2 := ⟨Nat.le_of_ble_eq_true rfl, Nat.le_of_ble_eq_true rfl⟩
theorem EncodeShape.im2Mirror : EncodeShape.Statement .im2Mirror :=
  ⟨Nat.le_of_ble_eq_true rfl, Nat.le_of_ble_eq_true rfl⟩
theorem EncodeShape.ldIA : EncodeShape.Statement .ldIA := ⟨Nat.le_of_ble_eq_true rfl, Nat.le_of_ble_eq_true rfl⟩
theorem EncodeShape.ldRA : EncodeShape.Statement .ldRA := ⟨Nat.le_of_ble_eq_true rfl, Nat.le_of_ble_eq_true rfl⟩
theorem EncodeShape.ldAI : EncodeShape.Statement .ldAI := ⟨Nat.le_of_ble_eq_true rfl, Nat.le_of_ble_eq_true rfl⟩
theorem EncodeShape.ldAR : EncodeShape.Statement .ldAR := ⟨Nat.le_of_ble_eq_true rfl, Nat.le_of_ble_eq_true rfl⟩
theorem EncodeShape.rrd : EncodeShape.Statement .rrd := ⟨Nat.le_of_ble_eq_true rfl, Nat.le_of_ble_eq_true rfl⟩
theorem EncodeShape.rld : EncodeShape.Statement .rld := ⟨Nat.le_of_ble_eq_true rfl, Nat.le_of_ble_eq_true rfl⟩
theorem EncodeShape.nopEd77 (x : Fin 2) : EncodeShape.Statement (.nopEd77 x) :=
  ⟨Nat.le_of_ble_eq_true rfl, Nat.le_of_ble_eq_true rfl⟩
theorem EncodeShape.ldi : EncodeShape.Statement .ldi := ⟨Nat.le_of_ble_eq_true rfl, Nat.le_of_ble_eq_true rfl⟩
theorem EncodeShape.cpi : EncodeShape.Statement .cpi := ⟨Nat.le_of_ble_eq_true rfl, Nat.le_of_ble_eq_true rfl⟩
theorem EncodeShape.ini : EncodeShape.Statement .ini := ⟨Nat.le_of_ble_eq_true rfl, Nat.le_of_ble_eq_true rfl⟩
theorem EncodeShape.outi : EncodeShape.Statement .outi := ⟨Nat.le_of_ble_eq_true rfl, Nat.le_of_ble_eq_true rfl⟩
theorem EncodeShape.ldd : EncodeShape.Statement .ldd := ⟨Nat.le_of_ble_eq_true rfl, Nat.le_of_ble_eq_true rfl⟩
theorem EncodeShape.cpd : EncodeShape.Statement .cpd := ⟨Nat.le_of_ble_eq_true rfl, Nat.le_of_ble_eq_true rfl⟩
theorem EncodeShape.ind : EncodeShape.Statement .ind := ⟨Nat.le_of_ble_eq_true rfl, Nat.le_of_ble_eq_true rfl⟩
theorem EncodeShape.outd : EncodeShape.Statement .outd := ⟨Nat.le_of_ble_eq_true rfl, Nat.le_of_ble_eq_true rfl⟩
theorem EncodeShape.ldir : EncodeShape.Statement .ldir := ⟨Nat.le_of_ble_eq_true rfl, Nat.le_of_ble_eq_true rfl⟩
theorem EncodeShape.cpir : EncodeShape.Statement .cpir := ⟨Nat.le_of_ble_eq_true rfl, Nat.le_of_ble_eq_true rfl⟩
theorem EncodeShape.inir : EncodeShape.Statement .inir := ⟨Nat.le_of_ble_eq_true rfl, Nat.le_of_ble_eq_true rfl⟩
theorem EncodeShape.otir : EncodeShape.Statement .otir := ⟨Nat.le_of_ble_eq_true rfl, Nat.le_of_ble_eq_true rfl⟩
theorem EncodeShape.lddr : EncodeShape.Statement .lddr := ⟨Nat.le_of_ble_eq_true rfl, Nat.le_of_ble_eq_true rfl⟩
theorem EncodeShape.cpdr : EncodeShape.Statement .cpdr := ⟨Nat.le_of_ble_eq_true rfl, Nat.le_of_ble_eq_true rfl⟩
theorem EncodeShape.indr : EncodeShape.Statement .indr := ⟨Nat.le_of_ble_eq_true rfl, Nat.le_of_ble_eq_true rfl⟩
theorem EncodeShape.otdr : EncodeShape.Statement .otdr := ⟨Nat.le_of_ble_eq_true rfl, Nat.le_of_ble_eq_true rfl⟩
theorem EncodeShape.nopEd00 (x : Fin 64) : EncodeShape.Statement (.nopEd00 x) :=
  ⟨Nat.le_of_ble_eq_true rfl, Nat.le_of_ble_eq_true rfl⟩
theorem EncodeShape.nopEd80 (x : Fin 32) : EncodeShape.Statement (.nopEd80 x) :=
  ⟨Nat.le_of_ble_eq_true rfl, Nat.le_of_ble_eq_true rfl⟩
theorem EncodeShape.nopEdA4 (x4 : Fin 2) (x10 : Fin 4) : EncodeShape.Statement (.nopEdA4 x4 x10) :=
  ⟨Nat.le_of_ble_eq_true rfl, Nat.le_of_ble_eq_true rfl⟩
theorem EncodeShape.nopEdAC (x4 : Fin 2) (x10 : Fin 4) : EncodeShape.Statement (.nopEdAC x4 x10) :=
  ⟨Nat.le_of_ble_eq_true rfl, Nat.le_of_ble_eq_true rfl⟩
theorem EncodeShape.nopEdC0 (x : Fin 64) : EncodeShape.Statement (.nopEdC0 x) :=
  ⟨Nat.le_of_ble_eq_true rfl, Nat.le_of_ble_eq_true rfl⟩
theorem EncodeShape.addXyPp (xy : XY) (pp : RPXY) : EncodeShape.Statement (.addXyPp xy pp) :=
  ⟨Nat.le_of_ble_eq_true rfl, Nat.le_of_ble_eq_true rfl⟩
theorem EncodeShape.ldXyNn (xy : XY) (nn : Word) : EncodeShape.Statement (.ldXyNn xy nn) :=
  ⟨Nat.le_of_ble_eq_true rfl, Nat.le_of_ble_eq_true rfl⟩
theorem EncodeShape.ldMemNnXy (nn : Word) (xy : XY) : EncodeShape.Statement (.ldMemNnXy nn xy) :=
  ⟨Nat.le_of_ble_eq_true rfl, Nat.le_of_ble_eq_true rfl⟩
theorem EncodeShape.incXy (xy : XY) : EncodeShape.Statement (.incXy xy) :=
  ⟨Nat.le_of_ble_eq_true rfl, Nat.le_of_ble_eq_true rfl⟩
theorem EncodeShape.ldXyMemNn (xy : XY) (nn : Word) : EncodeShape.Statement (.ldXyMemNn xy nn) :=
  ⟨Nat.le_of_ble_eq_true rfl, Nat.le_of_ble_eq_true rfl⟩
theorem EncodeShape.decXy (xy : XY) : EncodeShape.Statement (.decXy xy) :=
  ⟨Nat.le_of_ble_eq_true rfl, Nat.le_of_ble_eq_true rfl⟩
theorem EncodeShape.incXyh (xy : XY) (h : Half) : EncodeShape.Statement (.incXyh xy h) :=
  ⟨Nat.le_of_ble_eq_true rfl, Nat.le_of_ble_eq_true rfl⟩
theorem EncodeShape.decXyh (xy : XY) (h : Half) : EncodeShape.Statement (.decXyh xy h) :=
  ⟨Nat.le_of_ble_eq_true rfl, Nat.le_of_ble_eq_true rfl⟩
theorem EncodeShape.ldXyhN (xy : XY) (h : Half) (n : Byte) : EncodeShape.Statement (.ldXyhN xy h n) :=
  ⟨Nat.le_of_ble_eq_true rfl, Nat.le_of_ble_eq_true rfl⟩
theorem EncodeShape.incMemXyd (xy : XY) (d : Byte) : EncodeShape.Statement (.incMemXyd xy d) :=
  ⟨Nat.le_of_ble_eq_true rfl, Nat.le_of_ble_eq_true rfl⟩
theorem EncodeShape.decMemXyd (xy : XY) (d : Byte) : EncodeShape.Statement (.decMemXyd xy d) :=
  ⟨Nat.le_of_ble_eq_true rfl, Nat.le_of_ble_eq_true rfl⟩
theorem EncodeShape.ldMemXydN (xy : XY) (d : Byte) (n : Byte) : EncodeShape.Statement (.ldMemXydN xy d n) :=
  ⟨Nat.le_of_ble_eq_true rfl, Nat.le_of_ble_eq_true rfl⟩
theorem EncodeShape.ldRXyh (r : Reg8) (xy : XY) (h : Half) : EncodeShape.Statement (.ldRXyh r xy h) :=
  ⟨Nat.le_of_ble_eq_true rfl, Nat.le_of_ble_eq_true rfl⟩
theorem EncodeShape.ldXyhR (xy : XY) (h : Half) (r : Reg8) : EncodeShape.Statement (.ldXyhR xy h r) :=
  ⟨Nat.le_of_ble_eq_true rfl, Nat.le_of_ble_eq_true rfl⟩
theorem EncodeShape.ldXyhXyg (xy : XY) (h : Half) (g : Half) : EncodeShape.Statement (.ldXyhXyg xy h g) :=
  ⟨Nat.le_of_ble_eq_true rfl, Nat.le_of_ble_eq_true rfl⟩
theorem EncodeShape.ldRMemXyd (r : Reg8) (xy : XY) (d : Byte) : EncodeShape.Statement (.ldRMemXyd r xy d) :=
  ⟨Nat.le_of_ble_eq_true rfl, Nat.le_of_ble_eq_true rfl⟩
theorem EncodeShape.ldMemXydR (xy : XY) (d : Byte) (r : Reg8) : EncodeShape.Statement (.ldMemXydR xy d r) :=
  ⟨Nat.le_of_ble_eq_true rfl, Nat.le_of_ble_eq_true rfl⟩
theorem EncodeShape.addAXyh (xy : XY) (h : Half) : EncodeShape.Statement (.addAXyh xy h) :=
  ⟨Nat.le_of_ble_eq_true rfl, Nat.le_of_ble_eq_true rfl⟩
theorem EncodeShape.addAMemXyd (xy : XY) (d : Byte) : EncodeShape.Statement (.addAMemXyd xy d) :=
  ⟨Nat.le_of_ble_eq_true rfl, Nat.le_of_ble_eq_true rfl⟩
theorem EncodeShape.adcAXyh (xy : XY) (h : Half) : EncodeShape.Statement (.adcAXyh xy h) :=
  ⟨Nat.le_of_ble_eq_true rfl, Nat.le_of_ble_eq_true rfl⟩
theorem EncodeShape.adcAMemXyd (xy : XY) (d : Byte) : EncodeShape.Statement (.adcAMemXyd xy d) :=
  ⟨Nat.le_of_ble_eq_true rfl, Nat.le_of_ble_eq_true rfl⟩
theorem EncodeShape.subXyh (xy : XY) (h : Half) : EncodeShape.Statement (.subXyh xy h) :=
  ⟨Nat.le_of_ble_eq_true rfl, Nat.le_of_ble_eq_true rfl⟩
theorem EncodeShape.subMemXyd (xy : XY) (d : Byte) : EncodeShape.Statement (.subMemXyd xy d) :=
  ⟨Nat.le_of_ble_eq_true rfl, Nat.le_of_ble_eq_true rfl⟩
theorem EncodeShape.sbcAXyh (xy : XY) (h : Half) : EncodeShape.Statement (.sbcAXyh xy h) :=
  ⟨Nat.le_of_ble_eq_true rfl, Nat.le_of_ble_eq_true rfl⟩
theorem EncodeShape.sbcAMemXyd (xy : XY) (d : Byte) : EncodeShape.Statement (.sbcAMemXyd xy d) :=
  ⟨Nat.le_of_ble_eq_true rfl, Nat.le_of_ble_eq_true rfl⟩
theorem EncodeShape.andXyh (xy : XY) (h : Half) : EncodeShape.Statement (.andXyh xy h) :=
  ⟨Nat.le_of_ble_eq_true rfl, Nat.le_of_ble_eq_true rfl⟩
theorem EncodeShape.andMemXyd (xy : XY) (d : Byte) : EncodeShape.Statement (.andMemXyd xy d) :=
  ⟨Nat.le_of_ble_eq_true rfl, Nat.le_of_ble_eq_true rfl⟩
theorem EncodeShape.xorXyh (xy : XY) (h : Half) : EncodeShape.Statement (.xorXyh xy h) :=
  ⟨Nat.le_of_ble_eq_true rfl, Nat.le_of_ble_eq_true rfl⟩
theorem EncodeShape.xorMemXyd (xy : XY) (d : Byte) : EncodeShape.Statement (.xorMemXyd xy d) :=
  ⟨Nat.le_of_ble_eq_true rfl, Nat.le_of_ble_eq_true rfl⟩
theorem EncodeShape.orXyh (xy : XY) (h : Half) : EncodeShape.Statement (.orXyh xy h) :=
  ⟨Nat.le_of_ble_eq_true rfl, Nat.le_of_ble_eq_true rfl⟩
theorem EncodeShape.orMemXyd (xy : XY) (d : Byte) : EncodeShape.Statement (.orMemXyd xy d) :=
  ⟨Nat.le_of_ble_eq_true rfl, Nat.le_of_ble_eq_true rfl⟩
theorem EncodeShape.cpXyh (xy : XY) (h : Half) : EncodeShape.Statement (.cpXyh xy h) :=
  ⟨Nat.le_of_ble_eq_true rfl, Nat.le_of_ble_eq_true rfl⟩
theorem EncodeShape.cpMemXyd (xy : XY) (d : Byte) : EncodeShape.Statement (.cpMemXyd xy d) :=
  ⟨Nat.le_of_ble_eq_true rfl, Nat.le_of_ble_eq_true rfl⟩
theorem EncodeShape.popXy (xy : XY) : EncodeShape.Statement (.popXy xy) :=
  ⟨Nat.le_of_ble_eq_true rfl, Nat.le_of_ble_eq_true rfl⟩
theorem EncodeShape.exSpXy (xy : XY) : EncodeShape.Statement (.exSpXy xy) :=
  ⟨Nat.le_of_ble_eq_true rfl, Nat.le_of_ble_eq_true rfl⟩
theorem EncodeShape.pushXy (xy : XY) : EncodeShape.Statement (.pushXy xy) :=
  ⟨Nat.le_of_ble_eq_true rfl, Nat.le_of_ble_eq_true rfl⟩
theorem EncodeShape.jpXy (xy : XY) : EncodeShape.Statement (.jpXy xy) :=
  ⟨Nat.le_of_ble_eq_true rfl, Nat.le_of_ble_eq_true rfl⟩
theorem EncodeShape.ldSpXy (xy : XY) : EncodeShape.Statement (.ldSpXy xy) :=
  ⟨Nat.le_of_ble_eq_true rfl, Nat.le_of_ble_eq_true rfl⟩
theorem EncodeShape.prefixCbIndex (xy : XY) : EncodeShape.Statement (.prefixCbIndex xy) :=
  ⟨Nat.le_of_ble_eq_true rfl, Nat.le_of_ble_eq_true rfl⟩
theorem EncodeShape.indexPrefixIgnored (xy : XY) (o : Byte) : EncodeShape.Statement (.indexPrefixIgnored xy o) :=
  ⟨Nat.le_of_ble_eq_true rfl, Nat.le_of_ble_eq_true rfl⟩
theorem EncodeShape.rlcMemXyd (xy : XY) (d : Byte) : EncodeShape.Statement (.rlcMemXyd xy d) :=
  ⟨Nat.le_of_ble_eq_true rfl, Nat.le_of_ble_eq_true rfl⟩
theorem EncodeShape.rlcMemXydR (xy : XY) (d : Byte) (r : Reg8) : EncodeShape.Statement (.rlcMemXydR xy d r) :=
  ⟨Nat.le_of_ble_eq_true rfl, Nat.le_of_ble_eq_true rfl⟩
theorem EncodeShape.rrcMemXyd (xy : XY) (d : Byte) : EncodeShape.Statement (.rrcMemXyd xy d) :=
  ⟨Nat.le_of_ble_eq_true rfl, Nat.le_of_ble_eq_true rfl⟩
theorem EncodeShape.rrcMemXydR (xy : XY) (d : Byte) (r : Reg8) : EncodeShape.Statement (.rrcMemXydR xy d r) :=
  ⟨Nat.le_of_ble_eq_true rfl, Nat.le_of_ble_eq_true rfl⟩
theorem EncodeShape.rlMemXyd (xy : XY) (d : Byte) : EncodeShape.Statement (.rlMemXyd xy d) :=
  ⟨Nat.le_of_ble_eq_true rfl, Nat.le_of_ble_eq_true rfl⟩
theorem EncodeShape.rlMemXydR (xy : XY) (d : Byte) (r : Reg8) : EncodeShape.Statement (.rlMemXydR xy d r) :=
  ⟨Nat.le_of_ble_eq_true rfl, Nat.le_of_ble_eq_true rfl⟩
theorem EncodeShape.rrMemXyd (xy : XY) (d : Byte) : EncodeShape.Statement (.rrMemXyd xy d) :=
  ⟨Nat.le_of_ble_eq_true rfl, Nat.le_of_ble_eq_true rfl⟩
theorem EncodeShape.rrMemXydR (xy : XY) (d : Byte) (r : Reg8) : EncodeShape.Statement (.rrMemXydR xy d r) :=
  ⟨Nat.le_of_ble_eq_true rfl, Nat.le_of_ble_eq_true rfl⟩
theorem EncodeShape.slaMemXyd (xy : XY) (d : Byte) : EncodeShape.Statement (.slaMemXyd xy d) :=
  ⟨Nat.le_of_ble_eq_true rfl, Nat.le_of_ble_eq_true rfl⟩
theorem EncodeShape.slaMemXydR (xy : XY) (d : Byte) (r : Reg8) : EncodeShape.Statement (.slaMemXydR xy d r) :=
  ⟨Nat.le_of_ble_eq_true rfl, Nat.le_of_ble_eq_true rfl⟩
theorem EncodeShape.sraMemXyd (xy : XY) (d : Byte) : EncodeShape.Statement (.sraMemXyd xy d) :=
  ⟨Nat.le_of_ble_eq_true rfl, Nat.le_of_ble_eq_true rfl⟩
theorem EncodeShape.sraMemXydR (xy : XY) (d : Byte) (r : Reg8) : EncodeShape.Statement (.sraMemXydR xy d r) :=
  ⟨Nat.le_of_ble_eq_true rfl, Nat.le_of_ble_eq_true rfl⟩
theorem EncodeShape.sllMemXyd (xy : XY) (d : Byte) : EncodeShape.Statement (.sllMemXyd xy d) :=
  ⟨Nat.le_of_ble_eq_true rfl, Nat.le_of_ble_eq_true rfl⟩
theorem EncodeShape.sllMemXydR (xy : XY) (d : Byte) (r : Reg8) : EncodeShape.Statement (.sllMemXydR xy d r) :=
  ⟨Nat.le_of_ble_eq_true rfl, Nat.le_of_ble_eq_true rfl⟩
theorem EncodeShape.srlMemXyd (xy : XY) (d : Byte) : EncodeShape.Statement (.srlMemXyd xy d) :=
  ⟨Nat.le_of_ble_eq_true rfl, Nat.le_of_ble_eq_true rfl⟩
theorem EncodeShape.srlMemXydR (xy : XY) (d : Byte) (r : Reg8) : EncodeShape.Statement (.srlMemXydR xy d r) :=
  ⟨Nat.le_of_ble_eq_true rfl, Nat.le_of_ble_eq_true rfl⟩
theorem EncodeShape.bitBMemXyd (bn : Fin 8) (xy : XY) (d : Byte) : EncodeShape.Statement (.bitBMemXyd bn xy d) :=
  ⟨Nat.le_of_ble_eq_true rfl, Nat.le_of_ble_eq_true rfl⟩
theorem EncodeShape.bitBMemXydMirror (bn : Fin 8) (xy : XY) (d : Byte) (r : Reg8) : EncodeShape.Statement (.bitBMemXydMirror bn xy d r) :=
  ⟨Nat.le_of_ble_eq_true rfl, Nat.le_of_ble_eq_true rfl⟩
theorem EncodeShape.resBMemXyd (bn : Fin 8) (xy : XY) (d : Byte) : EncodeShape.Statement (.resBMemXyd bn xy d) :=
  ⟨Nat.le_of_ble_eq_true rfl, Nat.le_of_ble_eq_true rfl⟩
theorem EncodeShape.resBMemXydR (bn : Fin 8) (xy : XY) (d : Byte) (r : Reg8) : EncodeShape.Statement (.resBMemXydR bn xy d r) :=
  ⟨Nat.le_of_ble_eq_true rfl, Nat.le_of_ble_eq_true rfl⟩
theorem EncodeShape.setBMemXyd (bn : Fin 8) (xy : XY) (d : Byte) : EncodeShape.Statement (.setBMemXyd bn xy d) :=
  ⟨Nat.le_of_ble_eq_true rfl, Nat.le_of_ble_eq_true rfl⟩
theorem EncodeShape.setBMemXydR (bn : Fin 8) (xy : XY) (d : Byte) (r : Reg8) : EncodeShape.Statement (.setBMemXydR bn xy d r) :=
  ⟨Nat.le_of_ble_eq_true rfl, Nat.le_of_ble_eq_true rfl⟩

end Sys2Proof.Laws
end

