-- ==== Sys2Proof/Tests/Slice0.lean ====
section
/-! SUPPORT. The model's own tests: the checks of `Instr.wellFormed`, one word of every row of the opcode table, one-step
vectors of spec/95_test_vectors.md (their program bytes at 0x6000 instead of 0x8000), and for every statement a witness
of its hypotheses. -/

namespace Sys2Proof.Machine.Tests

/-! ### Well-formed terms: one ill-formed term for each check -/

theorem test_wf_neg_mirror : (Instr.negMirror 0).wellFormed = false := by decide
theorem test_wf_retn_mirror_retn : (Instr.retnMirror 0).wellFormed = false := by decide
theorem test_wf_retn_mirror_reti : (Instr.retnMirror 1).wellFormed = false := by decide
theorem test_wf_ld_h_half : (Instr.ldRXyh .h .ix .high).wellFormed = false := by decide
theorem test_wf_ld_l_half : (Instr.ldRXyh .l .iy .low).wellFormed = false := by decide
theorem test_wf_ld_half_h : (Instr.ldXyhR .ix .high .h).wellFormed = false := by decide
theorem test_wf_ld_half_l : (Instr.ldXyhR .iy .low .l).wellFormed = false := by decide
theorem test_wf_ignored_changed : (Instr.indexPrefixIgnored .ix 0x21).wellFormed = false := by decide
theorem test_wf_ignored_cb : (Instr.indexPrefixIgnored .iy 0xCB).wellFormed = false := by decide

/-! ### Decoding: a word of every row, written out from its encoding (R120 to R137) -/

/-- Does the list decode to the instruction, with `n` bytes of its own? -/
def decodesTo (bytes : List Byte) (i : Instr) (n : Nat) : Bool :=
  match decode bytes with
  | .ok d => d.instr == i && d.len == n
  | .error _ => false

theorem test_decode_control_and_nn_1 :
    decodesTo [0b00000000] .nop 1 = true ∧
    decodesTo [0b00010000, 0x37] (.djnz 0x37) 2 = true ∧
    decodesTo [0b00011000, 0x38] (.jr 0x38) 2 = true ∧
    decodesTo [0b00110000, 0x39] (.jrCc .nc 0x39) 2 = true ∧
    decodesTo [0b00100001, 0x14, 0x86] (.ldDdNn .hl 0x8614) 3 = true ∧
    decodesTo [0b00101010, 0xCC, 0x8F] (.ldHlMemNn 0x8FCC) 3 = true ∧
    decodesTo [0b00111010, 0x03, 0x91] (.ldAMemNn 0x9103) 3 = true ∧
    decodesTo [0b01110110] .halt 1 = true ∧
    decodesTo [0b11010000] (.retCc .nc) 1 = true ∧
    decodesTo [0b11001001] .ret 1 = true ∧
    decodesTo [0b11101001] .jpHl 1 = true ∧
    decodesTo [0b11100010, 0x40, 0xC5] (.jpCcNn .po 0xC540) 3 = true ∧
    decodesTo [0b11000011, 0x77, 0xC6] (.jpNn 0xC677) 3 = true ∧
    decodesTo [0b11110011] .di 1 = true ∧
    decodesTo [0b11111011] .ei 1 = true ∧
    decodesTo [0b11100100, 0xF8, 0xCE] (.callCcNn .po 0xCEF8) 3 = true := by
  decide

theorem test_decode_control_and_nn_2 :
    decodesTo [0b11001101, 0x66, 0xD1] (.callNn 0xD166) 3 = true ∧
    decodesTo [0b11101111] (.rst 5) 1 = true := by
  decide

theorem test_decode_loads_1 :
    decodesTo [0b00001000] .exAfAf 1 = true ∧
    decodesTo [0b00000010] .ldMemBcA 1 = true ∧
    decodesTo [0b00010010] .ldMemDeA 1 = true ∧
    decodesTo [0b00100010, 0xF0, 0x8A] (.ldMemNnHl 0x8AF0) 3 = true ∧
    decodesTo [0b00110010, 0x27, 0x8C] (.ldMemNnA 0x8C27) 3 = true ∧
    decodesTo [0b00001010] .ldAMemBc 1 = true ∧
    decodesTo [0b00011010] .ldAMemDe 1 = true ∧
    decodesTo [0b00001110, 0x4A] (.ldRN .c 0x4A) 2 = true ∧
    decodesTo [0b00110110, 0x4B] (.ldMemHlN 0x4B) 2 = true ∧
    decodesTo [0b01011101] (.ldRR .e .l) 1 = true ∧
    decodesTo [0b01111110] (.ldRMemHl .a) 1 = true ∧
    decodesTo [0b01110010] (.ldMemHlR .d) 1 = true ∧
    decodesTo [0b11110001] (.popQq .af) 1 = true ∧
    decodesTo [0b11011001] .exx 1 = true ∧
    decodesTo [0b11111001] .ldSpHl 1 = true ∧
    decodesTo [0b11010011, 0x70] (.outNA 0x70) 2 = true := by
  decide

theorem test_decode_loads_2 :
    decodesTo [0b11011011, 0x71] (.inAN 0x71) 2 = true ∧
    decodesTo [0b11100011] .exSpHl 1 = true ∧
    decodesTo [0b11101011] .exDeHl 1 = true ∧
    decodesTo [0b11110101] (.pushQq .af) 1 = true := by
  decide

theorem test_decode_arithmetic_1 :
    decodesTo [0b00111001] (.addHlSs .sp) 1 = true ∧
    decodesTo [0b00000011] (.incSs .bc) 1 = true ∧
    decodesTo [0b00011011] (.decSs .de) 1 = true ∧
    decodesTo [0b00011100] (.incR .e) 1 = true ∧
    decodesTo [0b00110100] .incMemHl 1 = true ∧
    decodesTo [0b00010101] (.decR .d) 1 = true ∧
    decodesTo [0b00110101] .decMemHl 1 = true ∧
    decodesTo [0b00000111] .rlca 1 = true ∧
    decodesTo [0b00001111] .rrca 1 = true ∧
    decodesTo [0b00010111] .rla 1 = true ∧
    decodesTo [0b00011111] .rra 1 = true ∧
    decodesTo [0b00100111] .daa 1 = true ∧
    decodesTo [0b00101111] .cpl 1 = true ∧
    decodesTo [0b00110111] .scf 1 = true ∧
    decodesTo [0b00111111] .ccf 1 = true ∧
    decodesTo [0b10000001] (.addAR .c) 1 = true := by
  decide

theorem test_decode_arithmetic_2 :
    decodesTo [0b10000110] .addAMemHl 1 = true ∧
    decodesTo [0b10001000] (.adcAR .b) 1 = true ∧
    decodesTo [0b10001110] .adcAMemHl 1 = true ∧
    decodesTo [0b10010111] (.subR .a) 1 = true ∧
    decodesTo [0b10010110] .subMemHl 1 = true ∧
    decodesTo [0b10011101] (.sbcAR .l) 1 = true ∧
    decodesTo [0b10011110] .sbcAMemHl 1 = true ∧
    decodesTo [0b10100100] (.andR .h) 1 = true ∧
    decodesTo [0b10100110] .andMemHl 1 = true ∧
    decodesTo [0b10101011] (.xorR .e) 1 = true ∧
    decodesTo [0b10101110] .xorMemHl 1 = true ∧
    decodesTo [0b10110010] (.orR .d) 1 = true ∧
    decodesTo [0b10110110] .orMemHl 1 = true ∧
    decodesTo [0b10111001] (.cpR .c) 1 = true ∧
    decodesTo [0b10111110] .cpMemHl 1 = true ∧
    decodesTo [0b11000110, 0x79] (.addAN 0x79) 2 = true := by
  decide

theorem test_decode_arithmetic_3 :
    decodesTo [0b11001110, 0x7A] (.adcAN 0x7A) 2 = true ∧
    decodesTo [0b11010110, 0x7B] (.subN 0x7B) 2 = true ∧
    decodesTo [0b11011110, 0x7C] (.sbcAN 0x7C) 2 = true ∧
    decodesTo [0b11100110, 0x7D] (.andN 0x7D) 2 = true ∧
    decodesTo [0b11101110, 0x7E] (.xorN 0x7E) 2 = true ∧
    decodesTo [0b11110110, 0x7F] (.orN 0x7F) 2 = true ∧
    decodesTo [0b11111110, 0x80] (.cpN 0x80) 2 = true := by
  decide

theorem test_decode_prefix_rows :
    decodesTo [0b11001011] .prefixCb 1 = true ∧
    decodesTo [0b11101101] .prefixEd 1 = true ∧
    decodesTo [0b11011101] .prefixDd 1 = true ∧
    decodesTo [0b11111101] .prefixFd 1 = true ∧
    decodesTo [0b11011101, 0b11001011] (.prefixCbIndex .ix) 2 = true ∧
    decodesTo [0b11111101, 0x3E] (.indexPrefixIgnored .iy 0x3E) 1 = true := by
  decide

theorem test_decode_rotates_and_bits_1 :
    decodesTo [0b11001011, 0b00000111] (.rlcR .a) 2 = true ∧
    decodesTo [0b11001011, 0b00000110] .rlcMemHl 2 = true ∧
    decodesTo [0b11001011, 0b00001101] (.rrcR .l) 2 = true ∧
    decodesTo [0b11001011, 0b00001110] .rrcMemHl 2 = true ∧
    decodesTo [0b11001011, 0b00010100] (.rlR .h) 2 = true ∧
    decodesTo [0b11001011, 0b00010110] .rlMemHl 2 = true ∧
    decodesTo [0b11001011, 0b00011011] (.rrR .e) 2 = true ∧
    decodesTo [0b11001011, 0b00011110] .rrMemHl 2 = true ∧
    decodesTo [0b11001011, 0b00100010] (.slaR .d) 2 = true ∧
    decodesTo [0b11001011, 0b00100110] .slaMemHl 2 = true ∧
    decodesTo [0b11001011, 0b00101001] (.sraR .c) 2 = true ∧
    decodesTo [0b11001011, 0b00101110] .sraMemHl 2 = true ∧
    decodesTo [0b11001011, 0b00110000] (.sllR .b) 2 = true ∧
    decodesTo [0b11001011, 0b00110110] .sllMemHl 2 = true ∧
    decodesTo [0b11001011, 0b00111111] (.srlR .a) 2 = true ∧
    decodesTo [0b11001011, 0b00111110] .srlMemHl 2 = true := by
  decide

theorem test_decode_rotates_and_bits_2 :
    decodesTo [0b11001011, 0b01100101] (.bitBR 4 .l) 2 = true ∧
    decodesTo [0b11001011, 0b01111110] (.bitBMemHl 7) 2 = true ∧
    decodesTo [0b11001011, 0b10010100] (.resBR 2 .h) 2 = true ∧
    decodesTo [0b11001011, 0b10101110] (.resBMemHl 5) 2 = true ∧
    decodesTo [0b11001011, 0b11000011] (.setBR 0 .e) 2 = true ∧
    decodesTo [0b11001011, 0b11011110] (.setBMemHl 3) 2 = true := by
  decide

theorem test_decode_extended_1 :
    decodesTo [0b11101101, 0b01010000] (.inRC .d) 2 = true ∧
    decodesTo [0b11101101, 0b01110000] .inFC 2 = true ∧
    decodesTo [0b11101101, 0b01001001] (.outCR .c) 2 = true ∧
    decodesTo [0b11101101, 0b01110001] .outC0 2 = true ∧
    decodesTo [0b11101101, 0b01000010] (.sbcHlSs .bc) 2 = true ∧
    decodesTo [0b11101101, 0b01011010] (.adcHlSs .de) 2 = true ∧
    decodesTo [0b11101101, 0b01100011, 0x6C, 0x04] (.ldMemNnDd 0x046C .hl) 4 = true ∧
    decodesTo [0b11101101, 0b01111011, 0xA3, 0x05] (.ldDdMemNn .sp 0x05A3) 4 = true ∧
    decodesTo [0b11101101, 0b01000100] .neg 2 = true ∧
    decodesTo [0b11101101, 0b01110100] (.negMirror 6) 2 = true ∧
    decodesTo [0b11101101, 0b01000101] .retn 2 = true ∧
    decodesTo [0b11101101, 0b01001101] .reti 2 = true ∧
    decodesTo [0b11101101, 0b01011101] (.retnMirror 3) 2 = true ∧
    decodesTo [0b11101101, 0b01000110] .im0 2 = true ∧
    decodesTo [0b11101101, 0b01001110] .im0Mirror4E 2 = true ∧
    decodesTo [0b11101101, 0b01100110] .im0Mirror66 2 = true := by
  decide

theorem test_decode_extended_2 :
    decodesTo [0b11101101, 0b01101110] .im0Mirror6E 2 = true ∧
    decodesTo [0b11101101, 0b01010110] .im1 2 = true ∧
    decodesTo [0b11101101, 0b01110110] .im1Mirror 2 = true ∧
    decodesTo [0b11101101, 0b01011110] .im2 2 = true ∧
    decodesTo [0b11101101, 0b01111110] .im2Mirror 2 = true ∧
    decodesTo [0b11101101, 0b01000111] .ldIA 2 = true ∧
    decodesTo [0b11101101, 0b01001111] .ldRA 2 = true ∧
    decodesTo [0b11101101, 0b01010111] .ldAI 2 = true ∧
    decodesTo [0b11101101, 0b01011111] .ldAR 2 = true ∧
    decodesTo [0b11101101, 0b01100111] .rrd 2 = true ∧
    decodesTo [0b11101101, 0b01101111] .rld 2 = true ∧
    decodesTo [0b11101101, 0b01111111] (.nopEd77 1) 2 = true ∧
    decodesTo [0b11101101, 0b00100010] (.nopEd00 34) 2 = true ∧
    decodesTo [0b11101101, 0b10000111] (.nopEd80 7) 2 = true ∧
    decodesTo [0b11101101, 0b11110110] (.nopEdC0 54) 2 = true := by
  decide

theorem test_decode_block_1 :
    decodesTo [0b11101101, 0b10100000] .ldi 2 = true ∧
    decodesTo [0b11101101, 0b10100001] .cpi 2 = true ∧
    decodesTo [0b11101101, 0b10100010] .ini 2 = true ∧
    decodesTo [0b11101101, 0b10100011] .outi 2 = true ∧
    decodesTo [0b11101101, 0b10101000] .ldd 2 = true ∧
    decodesTo [0b11101101, 0b10101001] .cpd 2 = true ∧
    decodesTo [0b11101101, 0b10101010] .ind 2 = true ∧
    decodesTo [0b11101101, 0b10101011] .outd 2 = true ∧
    decodesTo [0b11101101, 0b10110000] .ldir 2 = true ∧
    decodesTo [0b11101101, 0b10110001] .cpir 2 = true ∧
    decodesTo [0b11101101, 0b10110010] .inir 2 = true ∧
    decodesTo [0b11101101, 0b10110011] .otir 2 = true ∧
    decodesTo [0b11101101, 0b10111000] .lddr 2 = true ∧
    decodesTo [0b11101101, 0b10111001] .cpdr 2 = true ∧
    decodesTo [0b11101101, 0b10111010] .indr 2 = true ∧
    decodesTo [0b11101101, 0b10111011] .otdr 2 = true := by
  decide

theorem test_decode_block_2 :
    decodesTo [0b11101101, 0b10110110] (.nopEdA4 1 2) 2 = true ∧
    decodesTo [0b11101101, 0b10111110] (.nopEdAC 1 2) 2 = true := by
  decide

theorem test_decode_index_arithmetic_1 :
    decodesTo [0b11011101, 0b00101001] (.addXyPp .ix .xy) 2 = true ∧
    decodesTo [0b11111101, 0b00100011] (.incXy .iy) 2 = true ∧
    decodesTo [0b11111101, 0b00101011] (.decXy .iy) 2 = true ∧
    decodesTo [0b11011101, 0b00100100] (.incXyh .ix .high) 2 = true ∧
    decodesTo [0b11111101, 0b00101101] (.decXyh .iy .low) 2 = true ∧
    decodesTo [0b11111101, 0b00110100, 0xA1] (.incMemXyd .iy 0xA1) 3 = true ∧
    decodesTo [0b11011101, 0b00110101, 0xA2] (.decMemXyd .ix 0xA2) 3 = true ∧
    decodesTo [0b11111101, 0b10000101] (.addAXyh .iy .low) 2 = true ∧
    decodesTo [0b11011101, 0b10000110, 0xAA] (.addAMemXyd .ix 0xAA) 3 = true ∧
    decodesTo [0b11111101, 0b10001101] (.adcAXyh .iy .low) 2 = true ∧
    decodesTo [0b11011101, 0b10001110, 0xAC] (.adcAMemXyd .ix 0xAC) 3 = true ∧
    decodesTo [0b11111101, 0b10010101] (.subXyh .iy .low) 2 = true ∧
    decodesTo [0b11011101, 0b10010110, 0xAE] (.subMemXyd .ix 0xAE) 3 = true ∧
    decodesTo [0b11111101, 0b10011101] (.sbcAXyh .iy .low) 2 = true ∧
    decodesTo [0b11011101, 0b10011110, 0xB0] (.sbcAMemXyd .ix 0xB0) 3 = true ∧
    decodesTo [0b11111101, 0b10100101] (.andXyh .iy .low) 2 = true := by
  decide

theorem test_decode_index_arithmetic_2 :
    decodesTo [0b11011101, 0b10100110, 0xB2] (.andMemXyd .ix 0xB2) 3 = true ∧
    decodesTo [0b11111101, 0b10101101] (.xorXyh .iy .low) 2 = true ∧
    decodesTo [0b11011101, 0b10101110, 0xB4] (.xorMemXyd .ix 0xB4) 3 = true ∧
    decodesTo [0b11111101, 0b10110101] (.orXyh .iy .low) 2 = true ∧
    decodesTo [0b11011101, 0b10110110, 0xB6] (.orMemXyd .ix 0xB6) 3 = true ∧
    decodesTo [0b11111101, 0b10111101] (.cpXyh .iy .low) 2 = true ∧
    decodesTo [0b11011101, 0b10111110, 0xB8] (.cpMemXyd .ix 0xB8) 3 = true := by
  decide

theorem test_decode_index_loads :
    decodesTo [0b11111101, 0b00100001, 0xE0, 0x39] (.ldXyNn .iy 0x39E0) 4 = true ∧
    decodesTo [0b11011101, 0b00100010, 0x17, 0x3B] (.ldMemNnXy 0x3B17 .ix) 4 = true ∧
    decodesTo [0b11011101, 0b00101010, 0x85, 0x3D] (.ldXyMemNn .ix 0x3D85) 4 = true ∧
    decodesTo [0b11011101, 0b00100110, 0xD5] (.ldXyhN .ix .high 0xD5) 3 = true ∧
    decodesTo [0b11111101, 0b00110110, 0xA3, 0xD8] (.ldMemXydN .iy 0xA3 0xD8) 4 = true ∧
    decodesTo [0b11011101, 0b01011100] (.ldRXyh .e .ix .high) 2 = true ∧
    decodesTo [0b11111101, 0b01101001] (.ldXyhR .iy .low .c) 2 = true ∧
    decodesTo [0b11011101, 0b01100101] (.ldXyhXyg .ix .high .low) 2 = true ∧
    decodesTo [0b11111101, 0b01101110, 0xA7] (.ldRMemXyd .l .iy 0xA7) 3 = true ∧
    decodesTo [0b11011101, 0b01110001, 0xA8] (.ldMemXydR .ix 0xA8 .c) 3 = true ∧
    decodesTo [0b11111101, 0b11100001] (.popXy .iy) 2 = true ∧
    decodesTo [0b11011101, 0b11100011] (.exSpXy .ix) 2 = true ∧
    decodesTo [0b11111101, 0b11100101] (.pushXy .iy) 2 = true ∧
    decodesTo [0b11011101, 0b11101001] (.jpXy .ix) 2 = true ∧
    decodesTo [0b11111101, 0b11111001] (.ldSpXy .iy) 2 = true := by
  decide

theorem test_decode_index_bits_rotates :
    decodesTo [0b11011101, 0b11001011, 0xC0, 0b00000110] (.rlcMemXyd .ix 0xC0) 4 = true ∧
    decodesTo [0b11111101, 0b11001011, 0xC1, 0b00000111] (.rlcMemXydR .iy 0xC1 .a) 4 = true ∧
    decodesTo [0b11011101, 0b11001011, 0xC2, 0b00001110] (.rrcMemXyd .ix 0xC2) 4 = true ∧
    decodesTo [0b11111101, 0b11001011, 0xC3, 0b00001101] (.rrcMemXydR .iy 0xC3 .l) 4 = true ∧
    decodesTo [0b11011101, 0b11001011, 0xC4, 0b00010110] (.rlMemXyd .ix 0xC4) 4 = true ∧
    decodesTo [0b11111101, 0b11001011, 0xC5, 0b00010100] (.rlMemXydR .iy 0xC5 .h) 4 = true ∧
    decodesTo [0b11011101, 0b11001011, 0xC6, 0b00011110] (.rrMemXyd .ix 0xC6) 4 = true ∧
    decodesTo [0b11111101, 0b11001011, 0xC7, 0b00011011] (.rrMemXydR .iy 0xC7 .e) 4 = true ∧
    decodesTo [0b11011101, 0b11001011, 0xC8, 0b00100110] (.slaMemXyd .ix 0xC8) 4 = true ∧
    decodesTo [0b11111101, 0b11001011, 0xC9, 0b00100010] (.slaMemXydR .iy 0xC9 .d) 4 = true ∧
    decodesTo [0b11011101, 0b11001011, 0xCA, 0b00101110] (.sraMemXyd .ix 0xCA) 4 = true ∧
    decodesTo [0b11111101, 0b11001011, 0xCB, 0b00101001] (.sraMemXydR .iy 0xCB .c) 4 = true ∧
    decodesTo [0b11011101, 0b11001011, 0xCC, 0b00110110] (.sllMemXyd .ix 0xCC) 4 = true ∧
    decodesTo [0b11111101, 0b11001011, 0xCD, 0b00110000] (.sllMemXydR .iy 0xCD .b) 4 = true ∧
    decodesTo [0b11011101, 0b11001011, 0xCE, 0b00111110] (.srlMemXyd .ix 0xCE) 4 = true ∧
    decodesTo [0b11111101, 0b11001011, 0xCF, 0b00111111] (.srlMemXydR .iy 0xCF .a) 4 = true := by
  decide

theorem test_decode_index_bits_bits :
    decodesTo [0b11011101, 0b11001011, 0xD0, 0b01001110] (.bitBMemXyd 1 .ix 0xD0) 4 = true ∧
    decodesTo [0b11111101, 0b11001011, 0xD1, 0b01100101] (.bitBMemXydMirror 4 .iy 0xD1 .l) 4 = true ∧
    decodesTo [0b11011101, 0b11001011, 0xD2, 0b10111110] (.resBMemXyd 7 .ix 0xD2) 4 = true ∧
    decodesTo [0b11111101, 0b11001011, 0xD3, 0b10010100] (.resBMemXydR 2 .iy 0xD3 .h) 4 = true ∧
    decodesTo [0b11011101, 0b11001011, 0xD4, 0b11101110] (.setBMemXyd 5 .ix 0xD4) 4 = true ∧
    decodesTo [0b11111101, 0b11001011, 0xD5, 0b11000011] (.setBMemXydR 0 .iy 0xD5 .e) 4 = true := by
  decide

/-! ### One step of one instruction: vectors of spec/95_test_vectors.md -/

/-- The start registers of the CPU vectors. -/
def base : Regs :=
  { a := 0xFF, f := 0xFF, b := 0xFF, c := 0xFF, d := 0xFF, e := 0xFF, h := 0xFF, l := 0xFF, afAlt := 0xFFFF,
    bcAlt := 0xFFFF, deAlt := 0xFFFF, hlAlt := 0xFFFF, ix := 0xFFFF, iy := 0xFFFF, sp := 0xFFFF, pc := 0x6000,
    wz := 0x0000, i := 0x00, r := 0x00 }

/-- The bytes at 0x6000, the named bytes of RAM, and the registers. -/
def start (bytes : List Byte) (mem : List (Word × Byte)) (g : Regs) : State :=
  let s := rawWriteBytes bytes 0x6000 (State.construct { Config.default with intFromA6 := false })
  { mem.foldl (fun t x => memWrite t x.1 x.2) s with regs := g }

/-- `start`, with other control bits. -/
def startWith (bytes : List Byte) (mem : List (Word × Byte)) (g : Regs) (k : Ctl) : State :=
  { start bytes mem g with ctl := k }

/-- The step ends with these registers, these T-states, this `Q` and these bytes of memory. -/
def ends (s : State) (g : Regs) (t : Nat) (q : Byte) (mem : List (Word × Byte)) : Bool :=
  match step s with
  | .next u => u.regs == g && u.clk.stepT == t && u.ctl.q == q && mem.all fun x => memRead u x.1 == x.2
  | .fault r => nomatch r
  | .refused _ => false

/-- V40.1 (R200). -/
theorem test_V40_1 :
    ends (start [0x41] []
      { base with c := 0x5A })
      { base with c := 0x5A, b := 0x5A, pc := 0x6001, r := 0x01 } 4 0x00 [] = true := by
  decide

/-- V40.2 (R202). -/
theorem test_V40_2 :
    ends (start [0x7E] [(0x4000, 0x99)]
      { base with h := 0x40, l := 0x00 })
      { base with h := 0x40, l := 0x00, a := 0x99, pc := 0x6001, r := 0x01 } 7 0x00 [] = true := by
  decide

/-- V40.3 (R206). -/
theorem test_V40_3 :
    ends (start [0x36, 0x77] []
      { base with h := 0x40, l := 0x00 })
      { base with h := 0x40, l := 0x00, pc := 0x6002, r := 0x01 } 10 0x00 [(0x4000, 0x77)] = true := by
  decide

/-- V40.5 (R203). -/
theorem test_V40_5 :
    ends (start [0xDD, 0x7E, 0xFF] [(0x4000, 0x42)]
      { base with ix := 0x4001 })
      { base with ix := 0x4001, a := 0x42, pc := 0x6003, wz := 0x4000, r := 0x02 } 19 0x00 [] = true := by
  decide

/-- V40.6 (R207). -/
theorem test_V40_6 :
    ends (start [0xFD, 0x36, 0x7F, 0x55] []
      { base with iy := 0x4000 })
      { base with iy := 0x4000, pc := 0x6004, wz := 0x407F, r := 0x02 } 19 0x00 [(0x407F, 0x55)] = true := by
  decide

/-- V40.7 (R208). -/
theorem test_V40_7 :
    ends (start [0x0A] [(0x4010, 0x3C)]
      { base with b := 0x40, c := 0x10 })
      { base with b := 0x40, c := 0x10, a := 0x3C, pc := 0x6001, wz := 0x4011, r := 0x01 } 7 0x00 [] = true := by
  decide

/-- V40.8 (R212). -/
theorem test_V40_8 :
    ends (start [0x12] []
      { base with a := 0x81, d := 0x40, e := 0x20 })
      { base with a := 0x81, d := 0x40, e := 0x20, pc := 0x6001, wz := 0x8121, r := 0x01 } 7 0x00 [(0x4020, 0x81)] = true := by
  decide

/-- V40.10 (R213). -/
theorem test_V40_10 :
    ends (start [0x32, 0x00, 0x41] []
      { base with a := 0x7E })
      { base with a := 0x7E, pc := 0x6003, wz := 0x7E01, r := 0x01 } 13 0x00 [(0x4100, 0x7E)] = true := by
  decide

/-- V40.13 (R216). -/
theorem test_V40_13 :
    ends (start [0xED, 0x47] []
      { base with a := 0x1E })
      { base with a := 0x1E, pc := 0x6002, i := 0x1E, r := 0x02 } 9 0x00 [] = true := by
  decide

/-- V40.14 (R217). -/
theorem test_V40_14 :
    ends (start [0xED, 0x4F] []
      { base with a := 0x85 })
      { base with a := 0x85, pc := 0x6002, r := 0x85 } 9 0x00 [] = true := by
  decide

/-- V40.15 (R221). -/
theorem test_V40_15 :
    ends (start [0xDD, 0x26, 0x12] []
      { base with ix := 0xABCD })
      { base with ix := 0x12CD, pc := 0x6003, r := 0x02 } 11 0x00 [] = true := by
  decide

/-- V41.1 (R230). -/
theorem test_V41_1 :
    ends (start [0x01, 0x34, 0x12] []
      base)
      { base with b := 0x12, c := 0x34, pc := 0x6003, r := 0x01 } 10 0x00 [] = true := by
  decide

/-- V41.2 (R232). -/
theorem test_V41_2 :
    ends (start [0x2A, 0x00, 0x40] [(0x4000, 0xCD), (0x4001, 0xAB)]
      base)
      { base with h := 0xAB, l := 0xCD, pc := 0x6003, wz := 0x4001, r := 0x01 } 16 0x00 [] = true := by
  decide

/-- V41.4 (R237). -/
theorem test_V41_4 :
    ends (start [0xED, 0x73, 0x00, 0x40] []
      { base with sp := 0xBEEF })
      { base with sp := 0xBEEF, pc := 0x6004, wz := 0x4001, r := 0x02 } 20 0x00 [(0x4000, 0xEF), (0x4001, 0xBE)] = true := by
  decide

/-- V41.5 (R238). -/
theorem test_V41_5 :
    ends (start [0xF9] []
      { base with h := 0x44, l := 0x00 })
      { base with h := 0x44, l := 0x00, sp := 0x4400, pc := 0x6001, r := 0x01 } 6 0x00 [] = true := by
  decide

/-- V41.6 (R240). -/
theorem test_V41_6 :
    ends (start [0xC5] []
      { base with b := 0x12, c := 0x34, sp := 0x4100 })
      { base with b := 0x12, c := 0x34, sp := 0x40FE, pc := 0x6001, r := 0x01 } 11 0x00 [(0x40FE, 0x34), (0x40FF, 0x12)] = true := by
  decide

/-- V41.7 (R242). -/
theorem test_V41_7 :
    ends (start [0xF1] [(0x40FE, 0xD7), (0x40FF, 0x12)]
      { base with sp := 0x40FE })
      { base with sp := 0x4100, a := 0x12, f := 0xD7, pc := 0x6001, r := 0x01 } 10 0x00 [] = true := by
  decide

/-- V41.9 (R244). -/
theorem test_V41_9 :
    ends (start [0xEB] []
      { base with d := 0x11, e := 0x11, h := 0x22, l := 0x22 })
      { base with d := 0x22, e := 0x22, h := 0x11, l := 0x11, pc := 0x6001, r := 0x01 } 4 0x00 [] = true := by
  decide

/-- V41.10 (R245). -/
theorem test_V41_10 :
    ends (start [0x08] []
      { base with a := 0x12, f := 0x34, afAlt := 0xABCD })
      { base with a := 0xAB, f := 0xCD, afAlt := 0x1234, pc := 0x6001, r := 0x01 } 4 0x00 [] = true := by
  decide

/-- V41.11 (R246). -/
theorem test_V41_11 :
    ends (start [0xD9] []
      { base with b := 0x00, c := 0x01, d := 0x00, e := 0x02, h := 0x00, l := 0x03, bcAlt := 0x0004, deAlt := 0x0005, hlAlt := 0x0006 })
      { base with b := 0x00, c := 0x04, d := 0x00, e := 0x05, h := 0x00, l := 0x06, bcAlt := 0x0001, deAlt := 0x0002, hlAlt := 0x0003, pc := 0x6001, r := 0x01 } 4 0x00 [] = true := by
  decide

/-- V41.12 (R247). -/
theorem test_V41_12 :
    ends (start [0xE3] [(0x4000, 0x78), (0x4001, 0x56)]
      { base with h := 0x12, l := 0x34, sp := 0x4000 })
      { base with h := 0x56, l := 0x78, sp := 0x4000, pc := 0x6001, wz := 0x5678, r := 0x01 } 19 0x00 [(0x4000, 0x34), (0x4001, 0x12)] = true := by
  decide

/-- V41.13 (R248). -/
theorem test_V41_13 :
    ends (start [0xDD, 0xE3] [(0x4000, 0x78), (0x4001, 0x56)]
      { base with ix := 0x1234, sp := 0x4000 })
      { base with ix := 0x5678, sp := 0x4000, pc := 0x6002, wz := 0x5678, r := 0x02 } 23 0x00 [(0x4000, 0x34), (0x4001, 0x12)] = true := by
  decide

/-- V42.1 (R261). -/
theorem test_V42_1 :
    ends (start [0xED, 0xA0] [(0x4000, 0x0A)]
      { base with h := 0x40, l := 0x00, d := 0x50, e := 0x00, b := 0x00, c := 0x01, a := 0x20, f := 0x00 })
      { base with h := 0x40, l := 0x01, d := 0x50, e := 0x01, b := 0x00, c := 0x00, a := 0x20, f := 0x28, pc := 0x6002, r := 0x02 } 16 0x28 [(0x5000, 0x0A)] = true := by
  decide

/-- V42.2 (R262). -/
theorem test_V42_2 :
    ends (start [0xED, 0xB0] [(0x4000, 0x11), (0x4001, 0x22)]
      { base with h := 0x40, l := 0x00, d := 0x50, e := 0x00, b := 0x00, c := 0x02, a := 0x00, f := 0x00 })
      { base with h := 0x40, l := 0x01, d := 0x50, e := 0x01, b := 0x00, c := 0x01, a := 0x00, f := 0x04, wz := 0x6001, r := 0x02, pc := 0x6000 } 21 0x04 [(0x5000, 0x11)] = true := by
  decide

/-- V42.4 (R263). -/
theorem test_V42_4 :
    ends (start [0xED, 0xA8] [(0x4001, 0x02)]
      { base with h := 0x40, l := 0x01, d := 0x50, e := 0x01, b := 0x00, c := 0x03, a := 0x08, f := 0xFF })
      { base with h := 0x40, l := 0x00, d := 0x50, e := 0x00, b := 0x00, c := 0x02, a := 0x08, f := 0xED, pc := 0x6002, r := 0x02 } 16 0xED [(0x5001, 0x02)] = true := by
  decide

/-- V42.6 (R265). -/
theorem test_V42_6 :
    ends (start [0xED, 0xA1] [(0x4000, 0x3C)]
      { base with h := 0x40, l := 0x00, b := 0x00, c := 0x02, a := 0x3C, f := 0x00 })
      { base with h := 0x40, l := 0x01, b := 0x00, c := 0x01, a := 0x3C, f := 0x46, pc := 0x6002, wz := 0x0001, r := 0x02 } 16 0x46 [] = true := by
  decide

/-- V42.7 (R266). -/
theorem test_V42_7 :
    ends (start [0xED, 0xB1] [(0x4000, 0x10)]
      { base with h := 0x40, l := 0x00, b := 0x00, c := 0x01, a := 0x01, f := 0x00 })
      { base with h := 0x40, l := 0x01, b := 0x00, c := 0x00, a := 0x01, f := 0x82, pc := 0x6002, wz := 0x0001, r := 0x02 } 16 0x82 [] = true := by
  decide

/-- V42.8 (R267). -/
theorem test_V42_8 :
    ends (start [0xED, 0xA9] [(0x4000, 0x01)]
      { base with h := 0x40, l := 0x00, b := 0x00, c := 0x05, a := 0x10, f := 0x01 })
      { base with h := 0x3F, l := 0xFF, b := 0x00, c := 0x04, a := 0x10, f := 0x3F, pc := 0x6002, wz := 0xFFFF, r := 0x02 } 16 0x3F [] = true := by
  decide

/-- V43.1 (R284). -/
theorem test_V43_1 :
    ends (start [0x80] []
      { base with a := 0x00, b := 0x00, f := 0x00 })
      { base with a := 0x00, b := 0x00, f := 0x40, pc := 0x6001, r := 0x01 } 4 0x40 [] = true := by
  decide

/-- V43.2 (R284). -/
theorem test_V43_2 :
    ends (start [0x80] []
      { base with a := 0xFF, b := 0x01, f := 0x00 })
      { base with a := 0x00, b := 0x01, f := 0x51, pc := 0x6001, r := 0x01 } 4 0x51 [] = true := by
  decide

/-- V43.6 (R285). -/
theorem test_V43_6 :
    ends (start [0x88] []
      { base with a := 0xFF, b := 0x00, f := 0x01 })
      { base with a := 0x00, b := 0x00, f := 0x51, pc := 0x6001, r := 0x01 } 4 0x51 [] = true := by
  decide

/-- V43.9 (R286). -/
theorem test_V43_9 :
    ends (start [0x90] []
      { base with a := 0x00, b := 0x01, f := 0x00 })
      { base with a := 0xFF, b := 0x01, f := 0xBB, pc := 0x6001, r := 0x01 } 4 0xBB [] = true := by
  decide

/-- V43.10 (R286). -/
theorem test_V43_10 :
    ends (start [0x90] []
      { base with a := 0x80, b := 0x01, f := 0x00 })
      { base with a := 0x7F, b := 0x01, f := 0x3E, pc := 0x6001, r := 0x01 } 4 0x3E [] = true := by
  decide

/-- V43.13 (R287). -/
theorem test_V43_13 :
    ends (start [0x98] []
      { base with a := 0x00, b := 0xFF, f := 0x01 })
      { base with a := 0x00, b := 0xFF, f := 0x53, pc := 0x6001, r := 0x01 } 4 0x53 [] = true := by
  decide

/-- V43.14 (R288). -/
theorem test_V43_14 :
    ends (start [0xE6, 0x0F] []
      { base with a := 0xF0, f := 0xFF })
      { base with a := 0x00, f := 0x54, pc := 0x6002, r := 0x01 } 7 0x54 [] = true := by
  decide

/-- V43.15 (R289). -/
theorem test_V43_15 :
    ends (start [0xAF] []
      { base with a := 0x5A, f := 0xFF })
      { base with a := 0x00, f := 0x44, pc := 0x6001, r := 0x01 } 4 0x44 [] = true := by
  decide

/-- V43.16 (R290). -/
theorem test_V43_16 :
    ends (start [0xB6] [(0x4000, 0x28)]
      { base with a := 0x01, h := 0x40, l := 0x00, f := 0x00 })
      { base with a := 0x29, h := 0x40, l := 0x00, f := 0x28, pc := 0x6001, r := 0x01 } 7 0x28 [] = true := by
  decide

/-- V43.17 (R291). -/
theorem test_V43_17 :
    ends (start [0xFE, 0x28] []
      { base with a := 0x40, f := 0x00 })
      { base with a := 0x40, f := 0x3A, pc := 0x6002, r := 0x01 } 7 0x3A [] = true := by
  decide

/-- V43.18 (R292). -/
theorem test_V43_18 :
    ends (start [0x04] []
      { base with b := 0x7F, f := 0x01 })
      { base with b := 0x80, f := 0x95, pc := 0x6001, r := 0x01 } 4 0x95 [] = true := by
  decide

/-- V43.19 (R292). -/
theorem test_V43_19 :
    ends (start [0x04] []
      { base with b := 0xFF, f := 0x00 })
      { base with b := 0x00, f := 0x50, pc := 0x6001, r := 0x01 } 4 0x50 [] = true := by
  decide

/-- V43.20 (R296). -/
theorem test_V43_20 :
    ends (start [0x35] [(0x4000, 0x00)]
      { base with h := 0x40, l := 0x00, f := 0x01 })
      { base with h := 0x40, l := 0x00, f := 0xBB, pc := 0x6001, r := 0x01 } 11 0xBB [(0x4000, 0xFF)] = true := by
  decide

/-- V43.21 (R295). -/
theorem test_V43_21 :
    ends (start [0x05] []
      { base with b := 0x80, f := 0x00 })
      { base with b := 0x7F, f := 0x3E, pc := 0x6001, r := 0x01 } 4 0x3E [] = true := by
  decide

/-- V43.22 (R294). -/
theorem test_V43_22 :
    ends (start [0xDD, 0x34, 0x05] [(0x4005, 0x0F)]
      { base with ix := 0x4000, f := 0x00 })
      { base with ix := 0x4000, f := 0x10, pc := 0x6003, wz := 0x4005, r := 0x02 } 23 0x10 [(0x4005, 0x10)] = true := by
  decide

/-- V43.24 (R298). -/
theorem test_V43_24 :
    ends (start [0x27] []
      { base with a := 0x3C, f := 0x00 })
      { base with a := 0x42, f := 0x14, pc := 0x6001, r := 0x01 } 4 0x14 [] = true := by
  decide

/-- V43.25 (R298). -/
theorem test_V43_25 :
    ends (start [0x27] []
      { base with a := 0x9A, f := 0x00 })
      { base with a := 0x00, f := 0x55, pc := 0x6001, r := 0x01 } 4 0x55 [] = true := by
  decide

/-- V43.27 (R299). -/
theorem test_V43_27 :
    ends (start [0x2F] []
      { base with a := 0x5A, f := 0x00 })
      { base with a := 0xA5, f := 0x32, pc := 0x6001, r := 0x01 } 4 0x32 [] = true := by
  decide

/-- V43.28 (R300). -/
theorem test_V43_28 :
    ends (start [0xED, 0x44] []
      { base with a := 0x80, f := 0x00 })
      { base with a := 0x80, f := 0x87, pc := 0x6002, r := 0x02 } 8 0x87 [] = true := by
  decide

/-- V43.31 (R302). -/
theorem test_V43_31 :
    ends (start [0x37] []
      { base with a := 0x00, f := 0x28 })
      { base with a := 0x00, f := 0x29, pc := 0x6001, r := 0x01 } 4 0x29 [] = true := by
  decide

/-- V43.33 (R301). -/
theorem test_V43_33 :
    ends (start [0x3F] []
      { base with a := 0x28, f := 0x01 })
      { base with a := 0x28, f := 0x38, pc := 0x6001, r := 0x01 } 4 0x38 [] = true := by
  decide

/-- V44.1 (R330). -/
theorem test_V44_1 :
    ends (start [0x09] []
      { base with h := 0x0F, l := 0xFF, b := 0x00, c := 0x01, f := 0x00 })
      { base with h := 0x10, l := 0x00, b := 0x00, c := 0x01, f := 0x10, pc := 0x6001, wz := 0x1000, r := 0x01 } 11 0x10 [] = true := by
  decide

/-- V44.3 (R331). -/
theorem test_V44_3 :
    ends (start [0xED, 0x5A] []
      { base with h := 0x7F, l := 0xFF, d := 0x00, e := 0x00, f := 0x01 })
      { base with h := 0x80, l := 0x00, d := 0x00, e := 0x00, f := 0x94, pc := 0x6002, wz := 0x8000, r := 0x02 } 15 0x94 [] = true := by
  decide

/-- V44.4 (R332). -/
theorem test_V44_4 :
    ends (start [0xED, 0x42] []
      { base with h := 0x00, l := 0x00, b := 0x00, c := 0x01, f := 0x00 })
      { base with h := 0xFF, l := 0xFF, b := 0x00, c := 0x01, f := 0xBB, pc := 0x6002, wz := 0x0001, r := 0x02 } 15 0xBB [] = true := by
  decide

/-- V44.5 (R332). -/
theorem test_V44_5 :
    ends (start [0xED, 0x52] []
      { base with h := 0x12, l := 0x34, d := 0x12, e := 0x34, f := 0x01 })
      { base with h := 0xFF, l := 0xFF, d := 0x12, e := 0x34, f := 0xBB, pc := 0x6002, wz := 0x1235, r := 0x02 } 15 0xBB [] = true := by
  decide

/-- V44.7 (R333). -/
theorem test_V44_7 :
    ends (start [0xDD, 0x39] []
      { base with ix := 0x1000, sp := 0xF000, f := 0x00 })
      { base with ix := 0x0000, sp := 0xF000, f := 0x01, pc := 0x6002, wz := 0x1001, r := 0x02 } 15 0x01 [] = true := by
  decide

/-- V44.8 (R334). -/
theorem test_V44_8 :
    ends (start [0x03] []
      { base with b := 0xFF, c := 0xFF, f := 0x00 })
      { base with b := 0x00, c := 0x00, f := 0x00, pc := 0x6001, r := 0x01 } 6 0x00 [] = true := by
  decide

/-- V44.9 (R336). -/
theorem test_V44_9 :
    ends (start [0x3B] []
      { base with sp := 0x0000, f := 0xFF })
      { base with sp := 0xFFFF, f := 0xFF, pc := 0x6001, r := 0x01 } 6 0x00 [] = true := by
  decide

/-- V45.1 (R350). -/
theorem test_V45_1 :
    ends (start [0x07] []
      { base with a := 0x81, f := 0x00 })
      { base with a := 0x03, f := 0x01, pc := 0x6001, r := 0x01 } 4 0x01 [] = true := by
  decide

/-- V45.2 (R353). -/
theorem test_V45_2 :
    ends (start [0x1F] []
      { base with a := 0x01, f := 0xC4 })
      { base with a := 0x00, f := 0xC5, pc := 0x6001, r := 0x01 } 4 0xC5 [] = true := by
  decide

/-- V45.3 (R357). -/
theorem test_V45_3 :
    ends (start [0xCB, 0x10] []
      { base with b := 0x80, f := 0x00 })
      { base with b := 0x00, f := 0x45, pc := 0x6002, r := 0x02 } 8 0x45 [] = true := by
  decide

/-- V45.4 (R360). -/
theorem test_V45_4 :
    ends (start [0xCB, 0x2F] []
      { base with a := 0x81, f := 0x00 })
      { base with a := 0xC0, f := 0x85, pc := 0x6002, r := 0x02 } 8 0x85 [] = true := by
  decide

/-- V45.5 (R361). -/
theorem test_V45_5 :
    ends (start [0xCB, 0x31] []
      { base with c := 0x80, f := 0x00 })
      { base with c := 0x01, f := 0x01, pc := 0x6002, r := 0x02 } 8 0x01 [] = true := by
  decide

/-- V45.6 (R362). -/
theorem test_V45_6 :
    ends (start [0xCB, 0x3E] [(0x4000, 0x01)]
      { base with h := 0x40, l := 0x00, f := 0x00 })
      { base with h := 0x40, l := 0x00, f := 0x45, pc := 0x6002, r := 0x02 } 15 0x45 [(0x4000, 0x00)] = true := by
  decide

/-- V45.7 (R363). -/
theorem test_V45_7 :
    ends (start [0xDD, 0xCB, 0x02, 0x00] [(0x4002, 0x80)]
      { base with ix := 0x4000, f := 0x00, b := 0x00 })
      { base with ix := 0x4000, f := 0x01, b := 0x01, pc := 0x6004, wz := 0x4002, r := 0x02 } 23 0x01 [(0x4002, 0x01)] = true := by
  decide

/-- V45.8 (R364). -/
theorem test_V45_8 :
    ends (start [0xED, 0x6F] [(0x4000, 0x34)]
      { base with a := 0x12, h := 0x40, l := 0x00, f := 0x00 })
      { base with a := 0x13, h := 0x40, l := 0x00, f := 0x00, pc := 0x6002, wz := 0x4001, r := 0x02 } 18 0x00 [(0x4000, 0x42)] = true := by
  decide

/-- V45.9 (R365). -/
theorem test_V45_9 :
    ends (start [0xED, 0x67] [(0x4000, 0x34)]
      { base with a := 0x12, h := 0x40, l := 0x00, f := 0x00 })
      { base with a := 0x14, h := 0x40, l := 0x00, f := 0x04, pc := 0x6002, wz := 0x4001, r := 0x02 } 18 0x04 [(0x4000, 0x23)] = true := by
  decide

/-- V45.10 (R366). -/
theorem test_V45_10 :
    ends (start [0xCB, 0x7F] []
      { base with a := 0x80, f := 0x00 })
      { base with a := 0x80, f := 0x90, pc := 0x6002, r := 0x02 } 8 0x90 [] = true := by
  decide

/-- V45.12 (R367). -/
theorem test_V45_12 :
    ends (start [0xCB, 0x5E] [(0x4000, 0x08)]
      { base with h := 0x40, l := 0x00, wz := 0x2800, f := 0x00 })
      { base with h := 0x40, l := 0x00, wz := 0x2800, f := 0x38, pc := 0x6002, r := 0x02 } 12 0x38 [] = true := by
  decide

/-- V45.14 (R369). -/
theorem test_V45_14 :
    ends (start [0xCB, 0xFE] [(0x4000, 0x01)]
      { base with h := 0x40, l := 0x00, f := 0x00 })
      { base with h := 0x40, l := 0x00, f := 0x00, pc := 0x6002, r := 0x02 } 15 0x00 [(0x4000, 0x81)] = true := by
  decide

/-- V46.1 (R390). -/
theorem test_V46_1 :
    ends (start [0xC3, 0x00, 0x41] []
      base)
      { base with pc := 0x4100, wz := 0x4100, r := 0x01 } 10 0x00 [] = true := by
  decide

/-- V46.2 (R391). -/
theorem test_V46_2 :
    ends (start [0xC2, 0x00, 0x41] []
      { base with f := 0x40 })
      { base with f := 0x40, pc := 0x6003, wz := 0x4100, r := 0x01 } 10 0x00 [] = true := by
  decide

/-- V46.3 (R394). -/
theorem test_V46_3 :
    ends (start [0xE9] []
      { base with h := 0x12, l := 0x34 })
      { base with h := 0x12, l := 0x34, pc := 0x1234, r := 0x01 } 4 0x00 [] = true := by
  decide

/-- V46.4 (R392). -/
theorem test_V46_4 :
    ends (start [0x18, 0xFE] []
      base)
      { base with wz := 0x6000, r := 0x01, pc := 0x6000 } 12 0x00 [] = true := by
  decide

/-- V46.5 (R393). -/
theorem test_V46_5 :
    ends (start [0x30, 0x10] []
      { base with f := 0x00 })
      { base with f := 0x00, pc := 0x6012, wz := 0x6012, r := 0x01 } 12 0x00 [] = true := by
  decide

/-- V46.7 (R396). -/
theorem test_V46_7 :
    ends (start [0x10, 0xFE] []
      { base with b := 0x02 })
      { base with b := 0x01, wz := 0x6000, r := 0x01, pc := 0x6000 } 13 0x00 [] = true := by
  decide

/-- V46.9 (R397). -/
theorem test_V46_9 :
    ends (start [0xCD, 0x00, 0x41] []
      { base with sp := 0x4200 })
      { base with sp := 0x41FE, pc := 0x4100, wz := 0x4100, r := 0x01 } 17 0x00 [(0x41FE, 0x03), (0x41FF, 0x60)] = true := by
  decide

/-- V46.10 (R398). -/
theorem test_V46_10 :
    ends (start [0xCC, 0x00, 0x41] []
      { base with sp := 0x4200, f := 0x00 })
      { base with sp := 0x4200, f := 0x00, pc := 0x6003, wz := 0x4100, r := 0x01 } 10 0x00 [] = true := by
  decide

/-- V46.11 (R399). -/
theorem test_V46_11 :
    ends (start [0xC9] [(0x41FE, 0x03), (0x41FF, 0x80)]
      { base with sp := 0x41FE })
      { base with sp := 0x4200, pc := 0x8003, wz := 0x8003, r := 0x01 } 10 0x00 [] = true := by
  decide

/-- V46.12 (R400). -/
theorem test_V46_12 :
    ends (start [0xC0] []
      { base with f := 0x40 })
      { base with f := 0x40, pc := 0x6001, r := 0x01 } 5 0x00 [] = true := by
  decide

/-- V46.13 (R403). -/
theorem test_V46_13 :
    ends (start [0xFF] []
      { base with sp := 0x4200 })
      { base with sp := 0x41FE, pc := 0x0038, wz := 0x0038, r := 0x01 } 11 0x00 [(0x41FE, 0x01), (0x41FF, 0x60)] = true := by
  decide

/-- V47.4 (R438). -/
theorem test_V47_4 :
    ends (start [0xD3, 0xFD] []
      { base with a := 0x12 })
      { base with a := 0x12, pc := 0x6002, wz := 0x12FE, r := 0x01 } 11 0x00 [] = true := by
  decide

/-- V47.5 (R440). -/
theorem test_V47_5 :
    ends (start [0xED, 0x71] []
      { base with b := 0x12, c := 0xFE })
      { base with b := 0x12, c := 0xFE, pc := 0x6002, wz := 0x12FF, r := 0x02 } 12 0x00 [] = true := by
  decide

/-- V47.7 (R441). -/
theorem test_V47_7 :
    ends (start [0xED, 0xA3] [(0x4000, 0x80)]
      { base with b := 0x01, c := 0x10, h := 0x40, l := 0x00, f := 0x00 })
      { base with b := 0x00, c := 0x10, h := 0x40, l := 0x01, f := 0x42, pc := 0x6002, wz := 0x0011, r := 0x02 } 16 0x42 [] = true := by
  decide

/-- V47.8 (R442). -/
theorem test_V47_8 :
    ends (start [0xED, 0xB3] [(0x4000, 0x01)]
      { base with b := 0x02, c := 0x10, h := 0x40, l := 0x00, f := 0x00 })
      { base with b := 0x01, c := 0x10, h := 0x40, l := 0x01, f := 0x04, wz := 0x0111, r := 0x02, pc := 0x6000 } 21 0x04 [] = true := by
  decide

/-- V48.1 (R460). -/
theorem test_V48_1 :
    ends (start [0x00] []
      { base with r := 0x7F })
      { base with r := 0x00, pc := 0x6001 } 4 0x00 [] = true := by
  decide

/-- V48.9 (R467). -/
theorem test_V48_9 :
    ends (start [0xED, 0x00] []
      { base with r := 0x10 })
      { base with r := 0x12, pc := 0x6002 } 8 0x00 [] = true := by
  decide

/-- V48.12 (R468). -/
theorem test_V48_12 :
    ends (start [0xFD, 0x00] []
      base)
      { base with pc := 0x6002, r := 0x02 } 8 0x00 [] = true := by
  decide

/-! ### One step: control bits, ports and interrupts -/

/-- The control bits of the vectors' start state. -/
def quiet : Ctl := resetCtl

/-- The control bits after the step. -/
def endsCtl (s : State) (k : Ctl) (pc : Word) (t : Nat) : Bool :=
  match step s with
  | .next u => u.ctl == k && u.regs.pc == pc && u.clk.stepT == t
  | .fault r => nomatch r
  | .refused _ => false

/-- V40.11 (R214): P/V is IFF2, C is kept. -/
theorem test_V40_11 :
    ends (startWith [0xED, 0x57] [] { base with i := 0x80, f := 0x01 } { quiet with iff2 := true })
      { base with i := 0x80, a := 0x80, f := 0x85, pc := 0x6002, r := 0x02 } 9 0x85 [] = true := by
  decide

/-- R60: `LD A,I` marks the next boundary. -/
theorem test_ldair_mark :
    endsCtl (startWith [0xED, 0x57] [] { base with f := 0x00 } quiet)
      { quiet with q := 0x40, ldair := true } 0x6002 9 = true := by
  decide

/-- V43.32 (R302): after a flag write Q is F, so Y and X come from A alone. -/
theorem test_V43_32 :
    ends (startWith [0x37] [] { base with a := 0x00, f := 0x28 } { quiet with q := 0x28 })
      { base with a := 0x00, f := 0x01, pc := 0x6001, r := 0x01 } 4 0x01 [] = true := by
  decide

/-- V46.14 (R402): IFF1 from IFF2. -/
theorem test_V46_14 :
    endsCtl (startWith [0xED, 0x45] [(0x41FE, 0x34), (0x41FF, 0x12)] { base with sp := 0x41FE }
      { quiet with iff2 := true }) { quiet with iff1 := true, iff2 := true } 0x1234 14 = true := by
  decide

/-- V46.15 (R401). -/
theorem test_V46_15 :
    endsCtl (startWith [0xED, 0x4D] [(0x41FE, 0x34), (0x41FF, 0x12)] { base with sp := 0x41FE } quiet)
      quiet 0x1234 14 = true := by
  decide

/-- V48.3 (R461). -/
theorem test_V48_3 : endsCtl (start [0x76] [] base) { quiet with halted := true } 0x6001 4 = true := by decide

/-- V48.5 (R462). -/
theorem test_V48_5 :
    endsCtl (startWith [0xF3] [] base { quiet with iff1 := true, iff2 := true }) quiet 0x6001 4 = true := by
  decide

/-- V48.6 (R463, R56). -/
theorem test_V48_6 :
    endsCtl (start [0xFB] [] base) { quiet with iff1 := true, iff2 := true, eiBlock := true } 0x6001 4 = true := by
  decide

/-- V48.7 (R466). -/
theorem test_V48_7 : endsCtl (start [0xED, 0x5E] [] base) { quiet with im := .im2 } 0x6002 8 = true := by decide

/-- V48.8 (R464). -/
theorem test_V48_8 :
    endsCtl (startWith [0xED, 0x4E] [] base { quiet with im := .im2 }) quiet 0x6002 8 = true := by
  decide

/-- `IM 1` (R465). -/
theorem test_im1 : endsCtl (start [0xED, 0x56] [] base) { quiet with im := .im1 } 0x6002 8 = true := by decide

/-- The first prefix of V48.11 (R468, R57): a step of 4 T-states that blocks the next boundary. -/
theorem test_V48_11_first :
    endsCtl (start [0xDD, 0xDD, 0x21, 0x34, 0x12] [] base) { quiet with prefixBlock := true } 0x6001 4 = true := by
  decide

/-- As V61.1 (R431, R517): SHIFT is held and row 0 is selected, so bit 0 reads 0; VSYNC starts. -/
theorem test_keyboard_shift :
    (match step { start [0xDB, 0xFE] [] { base with a := 0xFE } with
        ula := { (start [] [] base).ula with keys := 1 } } with
      | .next u => u.regs.a == 0xFE && u.regs.wz == 0xFEFF && u.ula.vsync && u.ula.frameComplete
      | .fault r => nomatch r
      | .refused _ => false) = true := by
  decide

/-- As V61.4 (R97): an odd port reads the floating bus and starts no VSYNC. -/
theorem test_odd_port :
    (match step (start [0xDB, 0xFF] [] base) with
      | .next u => u.regs.a == 0xFF && !u.ula.vsync && u.clk.stepT == 11
      | .fault r => nomatch r
      | .refused _ => false) = true := by
  decide

/-- V47.4 (R438, R103): the port is A : n, at stamp 7; A1 = 0 switches the NMI generator off (R519). -/
theorem test_V47_4_bus :
    (match step (start [0xD3, 0xFD] [] { base with a := 0x12 }) with
      | .next u => u.busOut == some { port := 0x12FD, value := 0x12, stamp := 7 } && !u.ula.nmiGenOn
      | .fault r => nomatch r
      | .refused _ => false) = true := by
  decide

/-- V47.7 (R441): the port is the new B : C, at stamp 12. -/
theorem test_V47_7_bus :
    (match step (start [0xED, 0xA3] [(0x4000, 0x80)] { base with b := 0x01, c := 0x10, h := 0x40, l := 0x00 }) with
      | .next u => u.busOut == some { port := 0x0010, value := 0x80, stamp := 12 }
      | .fault r => nomatch r
      | .refused _ => false) = true := by
  decide

/-- `INI` from an odd port (R434): the floating bus 0xFF is stored, N is its bit 7, H and C its carry with C + 1. -/
theorem test_ini_floating_bus :
    ends (start [0xED, 0xA2] [] { base with b := 0x02, c := 0x11, h := 0x40, l := 0x00, f := 0x00 })
      { base with b := 0x01, c := 0x11, h := 0x40, l := 0x01, f := 0x17, pc := 0x6002, wz := 0x0212, r := 0x02 }
      16 0x17 [(0x4000, 0xFF)] = true := by
  decide

/-- V60.1 (R507): NMI with interrupts on. -/
theorem test_V60_1 :
    ends (startWith [0x00] [] { base with sp := 0x4100 }
      { quiet with iff1 := true, iff2 := true, nmiPending := true })
      { base with sp := 0x40FE, pc := 0x0066, wz := 0x0066, r := 0x01 } 11 0x00 [(0x40FE, 0x00), (0x40FF, 0x60)]
      = true := by
  decide

/-- V60.6 (R508, R510). -/
theorem test_V60_6 :
    endsCtl (startWith [0x00] [] { base with sp := 0x4100 }
      { quiet with iff1 := true, iff2 := true, im := .im1, intReq := true }) { quiet with im := .im1 } 0x0038 13
      = true := by
  decide

/-- V60.7 (R508): a request waits while IFF1 = 0. -/
theorem test_V60_7 :
    endsCtl (startWith [0x00] [] base { quiet with im := .im1, intReq := true })
      { quiet with im := .im1, intReq := true } 0x6001 4 = true := by
  decide

/-- V60.8 (R510): the table word at I : data. -/
theorem test_V60_8 :
    endsCtl (startWith [0x00] [(0x50FF, 0x34), (0x5100, 0x12)] { base with sp := 0x4100, i := 0x50 }
      { quiet with iff1 := true, iff2 := true, im := .im2, intReq := true }) { quiet with im := .im2 } 0x1234 19
      = true := by
  decide

/-- V60.9 (R509): data 0xFF is `RST 38h`. -/
theorem test_V60_9 :
    endsCtl (startWith [0x00] [] { base with sp := 0x4100 }
      { quiet with iff1 := true, iff2 := true, intReq := true }) quiet 0x0038 13 = true := by
  decide

/-- The second step of V60.13 (R512): an accepted request right after `LD A,I` clears P/V. -/
theorem test_V60_13_second :
    ends (startWith [0x00] [] { base with sp := 0x4100, f := 0x44 }
      { quiet with iff1 := true, iff2 := true, im := .im1, ldair := true, intReq := true })
      { base with f := 0x40, sp := 0x40FE, pc := 0x0038, wz := 0x0038, r := 0x01 } 13 0x00 [] = true := by
  decide

/-- A halt cycle (R55, R511), as the second step of V48.4. -/
theorem test_halt_cycle :
    ends (startWith [0x00] [] base { quiet with halted := true }) { base with r := 0x01 } 4 0x00 [] = true := by
  decide

/-- R85: a store to ROM is dropped. -/
theorem test_rom_store :
    ends (start [0x36, 0x77] [] { base with h := 0x10, l := 0x00 })
      { base with h := 0x10, l := 0x00, pc := 0x6002, r := 0x01 } 10 0x00 [(0x1000, 0x00)] = true := by
  decide

/-- `IN r,(C)` from an odd port (R432): the floating bus with its flags. -/
theorem test_in_r_odd :
    ends (start [0xED, 0x40] [] { base with b := 0x12, c := 0xFF, f := 0x01 })
      { base with b := 0xFF, c := 0xFF, f := 0xAD, pc := 0x6002, wz := 0x1300, r := 0x02 } 12 0xAD [] = true := by
  decide

/-- `SUB A,(IY+d)` as a word of the table after reset (log 7, log 10). -/
theorem test_fetch_word :
    decodeTableWord 16 0xFD96 = some (.subMemXyd .iy 0x00) ∧
      (match step (State.reset.withFetchWord 16 0xFD96) with
        | .next u => u.regs.pc == 0x0003 && u.clk.stepT == 19
        | .fault r => nomatch r
        | .refused _ => false) = true := by
  decide

/-! ### Witnesses: for each statement with hypotheses, a state and operands that meet them -/

/-- A state with RAM, a stack in RAM and BC = 2. -/
def wit : State :=
  start [0xED, 0xB0] [(0x4000, 0x11), (0x4001, 0x22)]
    { base with h := 0x40, l := 0x00, d := 0x50, e := 0x00, b := 0x00, c := 0x02, sp := 0x4002 }

/-- The same with other control bits. -/
def witCtl (k : Ctl) : State := { wit with ctl := k }

theorem test_witness_memWf : wit.memWf := by decide

theorem test_witness_DecodeOfEncode :
    (Instr.ldMemXydN .iy 0x80 0xFF).wellFormed = true ∧ isPrefixRow (.ldMemXydN .iy 0x80 0xFF) = false ∧
      (Instr.indexPrefixIgnored .ix 0xFD).wellFormed = true ∧ (Instr.prefixCbIndex .ix).wellFormed = true := by
  decide

theorem test_witness_StepRunsDecoded :
    stepKind wit = .instruction ∧ decode (fetchBytes wit) = .ok ⟨.ldir, 2, 2⟩ := by
  decide

theorem test_witness_StoreThenRead :
    wit.memWf ∧ hitsCell wit.cfg 0x4000 0xC000 = true ∧ hitsCell wit.cfg 0x4000 0x4001 = false ∧
      hitsCell wit.cfg 0x3FFF 0x3FFF = false ∧ (0x7FFF : Word).getLsbD 14 = true := by
  decide

theorem test_witness_RomStoresAreDropped :
    (0x3FFF : Word).getLsbD 14 = false ∧ (0x8000 : Word).getLsbD 14 = false ∧
      (start [] [] { base with h := 0x3F }).regs.hl.getLsbD 14 = false := by
  decide

theorem test_witness_WordsAreLittleEndian :
    wit.memWf ∧ (0x7FFE : Word).getLsbD 14 = true ∧ (0x7FFE + 1 : Word).getLsbD 14 = true := by
  decide

theorem test_witness_StoreToMemory8 : wit.memWf := by decide
theorem test_witness_StoreToMemory16 : wit.memWf := by decide
theorem test_witness_PushAndPop : wit.memWf := by decide
theorem test_witness_Exchanges : wit.memWf := by decide

theorem test_witness_LoadInterruptAndRefresh :
    (Instr.ldAI = .ldAI ∧ wit.regs.i = wit.regs.i) ∧ (Instr.ldAR = .ldAR ∧ wit.regs.r = wit.regs.r) := by
  decide

/-- SP = 0x4002 is the lowest stack whose two bytes are in RAM. -/
theorem test_witness_StackRoundTrips :
    wit.memWf ∧ (wit.regs.sp - 1).getLsbD 14 = true ∧ (wit.regs.sp - 2).getLsbD 14 = true ∧
      (wit.regs.sp - 3).getLsbD 14 = false := by
  decide

/-- BC = 2 repeats, BC = 1 does not. -/
theorem test_witness_BlockTransfer :
    wit.memWf ∧ (Instr.ldir = .ldir ∧ (1 : Word) = 1 ∧ true = true) ∧ wit.regs.bc - 1 ≠ 0 ∧
      (wit.withRegs { wit.regs with c := 0x01 }).regs.bc - 1 = 0 ∧
      (wit.withRegs { wit.regs with c := 0x01 }).memWf := by
  decide

theorem test_witness_BlockSearch :
    (Instr.cpir = .cpir ∧ (1 : Word) = 1 ∧ true = true) ∧ wit.regs.bc - 1 ≠ 0 ∧
      wit.regs.a ≠ memRead wit wit.regs.hl ∧
      (wit.withRegs { wit.regs with a := 0x11 }).regs.a = memRead wit wit.regs.hl := by
  decide

theorem test_witness_IncAndDec8 : wit.memWf := by decide

theorem test_witness_AccumulatorAndFlagOps :
    (Instr.neg = .neg ∨ ∃ y, Instr.neg = .negMirror y) ∧ (Instr.negMirror 7 = .neg ∨ ∃ y, Instr.negMirror 7 = .negMirror y) :=
  ⟨.inl rfl, .inr ⟨7, rfl⟩⟩

theorem test_witness_DecimalAdjustIsDecimal :
    bcdValue 0x00 = some 0 ∧ bcdValue 0x99 = some 99 ∧ bcdValue 0x9A = none := by
  decide

theorem test_witness_RotatesAndShifts :
    (Instr.rlca = .rlca ∧ RotOp.rlc = .rlc) ∧ (Instr.rla = .rla ∧ RotOp.rl = .rl) ∧
      (Instr.rrca = .rrca ∧ RotOp.rrc = .rrc) ∧ (Instr.rra = .rra ∧ RotOp.rr = .rr) ∧ wit.memWf := by
  decide

theorem test_witness_DigitRotates : wit.memWf := by decide

theorem test_witness_BitTests :
    Instr.bitBMemXyd 7 .ix 0x80 = .bitBMemXyd 7 .ix 0x80 ∧
      ∃ r, Instr.bitBMemXydMirror 0 .iy 0x7F .a = .bitBMemXydMirror 0 .iy 0x7F r :=
  ⟨rfl, .a, rfl⟩

theorem test_witness_SetAndResetBits : wit.memWf := by decide

theorem test_witness_JumpsAndConditions :
    cond4Holds .z 0x40 = true ∧ cond4Holds .z 0xBF = false ∧ wit.regs.b ≠ 1 ∧
      (wit.withRegs { wit.regs with b := 0x01 }).regs.b = 1 := by
  decide

theorem test_witness_CallsAndRestarts :
    wit.memWf ∧ condHolds .m wit.regs.f = true ∧ condHolds .p wit.regs.f = false := by
  decide

theorem test_witness_Returns :
    condHolds .c wit.regs.f = true ∧ condHolds .nc wit.regs.f = false ∧ Instr.reti = .reti ∧ Instr.retn = .retn ∧
      ∃ y, Instr.retnMirror 2 = .retnMirror y :=
  ⟨by decide, by decide, rfl, rfl, 2, rfl⟩

theorem test_witness_CpuControl :
    (Instr.im2Mirror = .im2Mirror ∧ IntMode.im2 = .im2) ∧ (∃ x, Instr.nopEdC0 63 = .nopEdC0 x) ∧
      ∃ x y, Instr.nopEdA4 1 3 = .nopEdA4 x y :=
  ⟨by decide, ⟨63, rfl⟩, ⟨1, 3, rfl⟩⟩

/-- B = 0 wraps to 0xFF and repeats, B = 1 does not. -/
theorem test_witness_BlockInput :
    wit.memWf ∧ (Instr.inir = .inir ∧ (1 : Word) = 1 ∧ true = true) ∧ wit.regs.b - 1 ≠ 0 ∧
      (wit.withRegs { wit.regs with b := 0x01 }).regs.b - 1 = 0 := by
  decide

theorem test_witness_BlockOutput :
    (Instr.otdr = .otdr ∧ (-1 : Word) = -1 ∧ true = true) ∧ wit.regs.b - 1 ≠ 0 ∧
      (wit.withRegs { wit.regs with b := 0x01 }).regs.b - 1 = 0 := by
  decide

theorem test_witness_KeyboardPort :
    (0xFFFF : Word).getLsbD 0 = true ∧ (0xFEFE : Word).getLsbD 0 = false ∧
      (advanceTo 11 wit).ula.nmiGenOn = false ∧ (advanceTo 11 wit).ula.vsync = false ∧
      (advanceTo 11 { wit with ula := { wit.ula with nmiGenOn := true } }).ula.nmiGenOn = true := by
  decide

/-- The byte at PC after an index prefix: 0xCB, a byte it changes, a byte before which it is ignored. -/
theorem test_witness_PrefixBytes :
    m1Byte (start [0xCB, 0x05, 0x06] [] base) 0x6000 = 0xCB ∧
      m1Byte (start [0x7E, 0x05] [] base) 0x6000 ≠ 0xCB ∧
      decodeXY .ix 0x7E 0x05 0x00 = some (.ldRMemXyd .a .ix 0x05, 1) ∧
      m1Byte (start [0x00] [] base) 0x6000 ≠ 0xCB ∧ decodeXY .iy 0x00 0x00 0x00 = none := by
  decide

theorem test_witness_IgnoredIndexPrefix :
    ((0xDD : Byte) = 0xDD ∨ (0xDD : Byte) = 0xFD) ∧ ¬((0x00 : Byte) = 0xDD ∨ (0x00 : Byte) = 0xFD) := by
  decide

/-- An NMI is pending and no prefix blocks it. -/
theorem test_witness_NmiAcceptance :
    (witCtl { quiet with nmiPending := true }).memWf ∧
      (witCtl { quiet with nmiPending := true }).ctl.nmiPending = true ∧
      (witCtl { quiet with nmiPending := true }).ctl.prefixBlock = false := by
  decide

/-- Accepted in each mode. -/
theorem test_witness_MaskableAcceptance :
    (∀ m : IntMode, m = .im0 ∨ m = .im1 ∨ m = .im2 →
      stepKind (witCtl { quiet with iff1 := true, iff2 := true, intReq := true, im := m }) = .maskable) ∧
      (witCtl { quiet with iff1 := true, iff2 := true, intReq := true }).memWf ∧
      wit.cfg.intAckData &&& 0xC7 = 0xC7 := by
  refine ⟨?_, by decide, by decide⟩
  rintro m (rfl | rfl | rfl) <;> decide

/-- Both sides of the stop: a data byte that is no `RST` in mode 0, and any in mode 1. -/
theorem test_witness_StepStopsOnlyInMode0 :
    stopsAtIm0 { witCtl { quiet with iff1 := true, intReq := true } with
      cfg := { wit.cfg with intAckData := 0xC3 } } = true ∧
      stopsAtIm0 { witCtl { quiet with iff1 := true, intReq := true, im := .im1 } with
        cfg := { wit.cfg with intAckData := 0xC3 } } = false := by
  decide

theorem test_witness_RequestsAreSampledInOrder :
    stepKind (witCtl { quiet with nmiPending := true, iff1 := true, intReq := true }) = .nmi ∧
      stepKind (witCtl { quiet with iff1 := true, intReq := true, eiBlock := true }) = .instruction ∧
      stepKind (witCtl { quiet with nmiPending := true, prefixBlock := true }) = .instruction ∧
      stepKind (witCtl { quiet with iff1 := true, intLine := true }) = .maskable ∧ ∃ t, step wit = .next t :=
  ⟨by decide, by decide, by decide, by decide, _, rfl⟩

/-- A halted machine; an end boundary with IFF1 clear, and one with IFF1 set and no maskable source; and runs of `HALT` and
of a jump to itself. -/
theorem test_witness_HaltCycles :
    stepKind (witCtl { quiet with halted := true }) = .haltCycle ∧
      programEnded (witCtl { quiet with halted := true, intReq := true }) = true ∧
      programEnded (witCtl { quiet with halted := true, iff1 := true, iff2 := true }) = true ∧
      (witCtl { quiet with halted := true }).ctl.intLine = false ∧
      (∃ t, runProgram 1 (startWith [0x76] [] base quiet) = .ended t ∧ t.regs.pc = 0x6001) ∧
      ∃ t, runProgram 2 (startWith [0x18, 0xFE] [] base quiet) = .running t :=
  ⟨by decide, by decide, by decide, by decide, ⟨_, rfl, by decide⟩, _, rfl⟩

/-- R608: `DI; HALT` ends after two steps and 8 T-states, at the boundary after the `HALT`; with IFF1 set and a request
latched, with an NMI pending, with the NMI generator on, and with the A6 wiring and IFF1 set, a halted boundary is no end. -/
theorem test_program_end :
    (match runProgram 9 (startWith [0xF3, 0x76] [] base { quiet with iff1 := true, iff2 := true }) with
      | .ended t => t.regs.pc == 0x6002 && t.clk.cycles == 8
      | .running _ => false
      | .stopped _ => false) = true ∧
      programEnded (witCtl { quiet with halted := true, iff1 := true, intReq := true }) = false ∧
      programEnded (witCtl { quiet with halted := true, nmiPending := true }) = false ∧
      programEnded { wit with ctl := { quiet with halted := true }, ula := { wit.ula with nmiGenOn := true } } = false ∧
      programEnded { State.reset with ctl := { quiet with halted := true, iff1 := true } } = false := by
  decide

theorem test_witness_NmiThenRetn :
    wit.memWf ∧ (wit.regs.sp - 1).getLsbD 14 = true ∧ (wit.regs.sp - 2).getLsbD 14 = true ∧
      ∃ t, acceptNmi wit = .next t :=
  ⟨by decide, by decide, by decide, _, rfl⟩

/-- A step of one M1 with bit 6 of R clear pulls /INT; one with bit 6 set does not. -/
theorem test_witness_IntLineFromA6 :
    (∃ t, step { start [0x00] [] { base with r := 0x3F } with cfg := Config.default } = .next t ∧
      t.ctl.intLine = true) ∧
      ∃ t, step { start [0x00] [] { base with r := 0x40 } with cfg := Config.default } = .next t ∧
        t.ctl.intLine = false :=
  ⟨⟨_, rfl, by decide⟩, ⟨_, rfl, by decide⟩⟩

theorem test_witness_LineTimer : wit.ula.nextLine ≤ 207 ∧ ¬wit.ula.nextLine ≤ 206 ∧ wit.ula.nextLine < 208 := by
  decide

/-- A character fetch in and out of VSYNC, an M1 below 0x8000, and a byte with bit 6 set; the last pixel of the buffer. -/
theorem test_witness_VideoFetchDraws :
    Pixels.wf wit.ula.fb ∧ (0xC000 : Word).getLsbD 15 = true ∧ (0x80 : Byte).getLsbD 6 = false ∧
      (0x7FFF : Word).getLsbD 15 = false ∧ (0x40 : Byte).getLsbD 6 = true ∧ (advanceTo 4 wit).ula.vsync = false ∧
      (advanceTo 4 { wit with ula := { wit.ula with vsync := true } }).ula.vsync = true ∧ 413 < 414 ∧ 311 < 312 := by
  decide

/-- R523, R524: the character 0x80 with a clear pattern draws eight ink pixels, two to a T-state. -/
theorem test_character_drawn :
    (videoFetch 0xC000 0x80 4 (start [] [] base)).ula.fb = [8, 9, 10, 11, 12, 13, 14, 15] := by
  decide

theorem test_witness_ResetState :
    wit.cfg.resetClearsRam = false ∧
      { wit with cfg := { wit.cfg with resetClearsRam := true } }.cfg.resetClearsRam = true ∧
      (0x4000 : Word).getLsbD 14 = true := by
  decide

/-- The last image that fits, and the first that does not. -/
theorem test_witness_LoadImage :
    (65535 < 65536 ∧ 65535 + [(0x12 : Byte)].length ≤ 65536 ∧ wit.memWf) ∧
      65535 + [(0x12 : Byte), 0x34].length > 65536 ∧ 65536 ≥ 65536 := by
  decide

theorem test_witness_FlagWriters :
    isPrefixRow .nop = false ∧ writesFlags .nop = false ∧ Instr.nop ≠ .exAfAf ∧ Instr.nop ≠ .popQq .af ∧
      ∃ t, exec .nop wit = .next t :=
  ⟨by decide, by decide, by decide, by decide, _, rfl⟩

theorem test_witness_SpecialRegisterWriters :
    isPrefixRow .cpl = false ∧ Instr.cpl ≠ .ldIA ∧ Instr.cpl ≠ .ldRA ∧ Instr.cpl ≠ .di ∧ Instr.cpl ≠ .ei ∧
      Instr.cpl ≠ .reti ∧ Instr.cpl ≠ .retn ∧ (∀ y, Instr.cpl ≠ .retnMirror y) ∧
      Instr.cpl ∉ [Instr.im0, .im0Mirror4E, .im0Mirror66, .im0Mirror6E, .im1, .im1Mirror, .im2, .im2Mirror] ∧
      Instr.cpl ≠ .halt ∧ Instr.cpl ≠ .ldAI ∧ Instr.cpl ≠ .ldAR ∧ Instr.cpl ≠ .exAfAf ∧ Instr.cpl ≠ .exx ∧
      ∃ t, exec .cpl wit = .next t :=
  ⟨by decide, by decide, by decide, by decide, by decide, by decide, by decide, by decide, by decide, by decide,
    by decide, by decide, by decide, by decide, _, rfl⟩

theorem test_witness_TStatesTable : isPrefixRow (.djnz 0xFE) = false ∧ ∃ t, exec (.djnz 0xFE) wit = .next t :=
  ⟨by decide, _, rfl⟩

theorem test_witness_StepFrameAndClock : ∃ t, step wit = .next t := ⟨_, rfl⟩

theorem test_witness_StepKeepsInvariant : wit.Inv ∧ ∃ t, step wit = .next t :=
  ⟨⟨by decide, by decide, by decide, by decide, by decide, by decide, by decide, by decide, by decide, by decide⟩, _, rfl⟩

end Sys2Proof.Machine.Tests
end

section
/-! The part of the invariant that holds at every moment of a step, and that the shared operations keep it. -/

namespace Sys2Proof.Machine

/-- What of `State.Inv` holds at every moment of a step that has not gone past cycle `b`: the line timer stands at a line
that began no later than `b`. -/
structure State.InvAt (b : Nat) (s : State) : Prop where
  mem : s.memWf
  cfg : s.cfg.wf = true
  line : s.ula.nextLine = s.ula.lineStart + Config.lineT
  started : s.ula.lineStart ≤ b
  held : s.ula.vsync = true → s.ula.lcntr = 0
  iff : s.ctl.iff1 = true → s.ctl.iff2 = true

/-! ### Pictures -/

/-- The eight pixels of a pattern row keep the canonical form (R524, R525). -/
theorem Pixels.wf_putPattern {fb : Pixels} (h : Pixels.wf fb) (x0 y : Nat) (p : Byte) :
    Pixels.wf (putPattern fb x0 y p) := by
  have hpixel : ∀ m, Pixels.wf m → ∀ i, Pixels.wf (putPixel m x0 y p i) := by
    intro m hm i
    unfold putPixel
    split
    · next hin =>
      refine Pixels.wf_put hm ?_ _
      simp only [Config.fbWidth, Config.fbLines] at hin ⊢
      omega
    · exact hm
  unfold putPattern
  generalize [0, 1, 2, 3, 4, 5, 6, 7] = is
  induction is generalizing fb with
  | nil => exact h
  | cons i is ih => exact ih (hpixel fb h i)

/-! ### The end of a step -/

/-- The line boundaries before `t` leave no earlier one to come (R520). -/
theorem le_nextLine_advanceBefore (s : State) (t : Nat) : t ≤ (advanceBefore t s).ula.nextLine := by
  unfold advanceBefore
  rw [boundaries_ula_nextLine]
  simp only [Config.lineT]
  omega

/-- /INT is asserted only where it is wired to A6 (R516). -/
theorem finishStep_wired {s : State} (h : (finishStep s).ctl.intLine = true) :
    (finishStep s).cfg.intFromA6 = true := by
  rw [finishStep_intLine, intLineLevel, Bool.and_eq_true, Bool.and_eq_true] at h
  obtain ⟨⟨hwired, -⟩, -⟩ := h
  rwa [finishStep_cfg]

namespace State.InvAt

variable {b : Nat} {s : State}

/-- The registers, the clock and the other control bits do not matter. -/
theorem congr {u : State} (h : s.InvAt b) (hrom : u.rom = s.rom) (hram : u.ram = s.ram) (hcfg : u.cfg = s.cfg)
    (hula : u.ula = s.ula) (h1 : u.ctl.iff1 = s.ctl.iff1) (h2 : u.ctl.iff2 = s.ctl.iff2) : u.InvAt b := by
  obtain ⟨mem, cfg, line, started, held, iff⟩ := h
  constructor <;> simpa only [State.memWf, hrom, hram, hcfg, hula, h1, h2]

/-- A later bound. -/
theorem mono {b' : Nat} (h : s.InvAt b) (hb : b ≤ b') : s.InvAt b' :=
  { h with started := h.started.trans hb }

theorem memWrite (h : s.InvAt b) (addr : Word) (v : Byte) : (memWrite s addr v).InvAt b := by
  have hmem := memWf_memWrite h.mem addr v
  obtain ⟨-, cfg, line, started, held, iff⟩ := h
  constructor <;> simpa only [memWrite_cfg, memWrite_ula, memWrite_ctl]

/-! ### The line timer and the video observer -/

/-- A line boundary at `t` (R520, R521). -/
theorem boundaryAt (h : s.InvAt b) {t : Nat} (ht : t ≤ b) : (boundaryAt t s).InvAt b where
  mem := h.mem
  cfg := h.cfg
  line := rfl
  started := ht
  held := fun hv => if_pos hv
  iff := h.iff

theorem boundaries (h : s.InvAt b) {n : Nat} (hn : s.ula.lineStart + n * Config.lineT ≤ b) :
    (boundaries n s).InvAt b := by
  induction n generalizing s with
  | zero => exact h
  | succ n ih =>
    have hline := h.line
    rw [Nat.succ_mul] at hn
    refine ih (h.boundaryAt (by omega)) ?_
    rw [boundaryAt_ula_lineStart]
    omega

theorem advanceTo (h : s.InvAt b) {t : Nat} (ht : t ≤ b) : (advanceTo t s).InvAt b := by
  have hline := h.line
  have hstarted := h.started
  refine h.boundaries ?_
  simp only [Config.lineT] at hline ⊢
  omega

theorem advanceBefore (h : s.InvAt b) {t : Nat} (ht : t ≤ b) : (advanceBefore t s).InvAt b := by
  have hline := h.line
  have hstarted := h.started
  refine h.boundaries ?_
  simp only [Config.lineT] at hline ⊢
  omega

theorem videoFetch (h : s.InvAt b) {t : Nat} (ht : t ≤ b) (addr : Word) (raw : Byte) :
    (videoFetch addr raw t s).InvAt b := by
  have ha := h.advanceTo ht
  unfold Machine.videoFetch
  simp only
  split
  · obtain ⟨⟨hrom, hram, hfb, hout⟩, cfg, line, started, held, iff⟩ := ha
    exact ⟨⟨hrom, hram, Pixels.wf_putPattern hfb .., hout⟩, cfg, line, started, held, iff⟩
  · exact ha

theorem fetchM1 (h : s.InvAt b) {k : Nat} (hk : s.clk.cycles + 4 * k ≤ b) : (fetchM1 k s).InvAt b := by
  have hv := h.videoFetch hk s.regs.pc (memRead s s.regs.pc)
  unfold Machine.fetchM1
  exact hv.congr rfl rfl rfl rfl rfl rfl

/-! ### The I/O bus -/

/-- VSYNC start clears the row counter and hands the picture over (R517, R526). -/
theorem startVsync (h : s.InvAt b) : (startVsync s).InvAt b := by
  unfold Machine.startVsync
  split
  · obtain ⟨⟨hrom, hram, hfb, -⟩, cfg, line, started, -, iff⟩ := h
    have hblank : Pixels.wf [] := ⟨List.Pairwise.nil, by simp⟩
    exact ⟨⟨hrom, hram, hblank, hfb⟩, cfg, line, started, fun _ => rfl, iff⟩
  · exact h

/-- VSYNC end (R518). -/
theorem endVsync (h : s.InvAt b) : (endVsync s).InvAt b := by
  unfold Machine.endVsync
  split
  · exact { h with held := fun hv => absurd hv Bool.false_ne_true }
  · exact h

theorem ioRead (h : s.InvAt b) {t : Nat} (ht : t ≤ b) (port : Word) : (ioRead port t s).2.InvAt b := by
  have ha := h.advanceTo ht
  rw [ioRead_eq]
  split
  · exact ha
  · exact ha.startVsync

theorem ioWrite (h : s.InvAt b) {t : Nat} (ht : t ≤ b) (port : Word) (v : Byte) : (ioWrite port v t s).InvAt b := by
  have hv := (h.advanceTo ht).endVsync
  rw [ioWrite_eq]
  exact { hv with }

/-! ### The end of a step -/

/-- The end of a step makes the invariant whole again (R516, R520). -/
theorem finishStep (h : s.InvAt s.clk.cycles) (hq : s.ctl.q = 0x00 ∨ s.ctl.q = s.regs.f)
    (hblock : s.ctl.eiBlock = true → s.ctl.iff1 = true) : (finishStep s).Inv := by
  have hend : (Machine.finishStep s).InvAt s.clk.cycles :=
    (h.congr (u := { s with ctl := { s.ctl with intLine := intLineLevel s } }) rfl rfl rfl rfl rfl rfl).advanceBefore
      le_rfl
  obtain ⟨mem, cfg, line, started, held, iff⟩ := hend
  refine ⟨mem, cfg, line, ?_, ?_, held, iff, ?_, ?_, ?_⟩
  · rwa [finishStep_clk]
  · rw [finishStep_clk]
    exact le_nextLine_advanceBefore _ _
  · rw [finishStep_ctl, finishStep_regs]
    exact hq
  · rw [finishStep_ctl]
    exact hblock
  · exact finishStep_wired

/-- The start of a step (R504). -/
theorem beginStep (h : s.Inv) : (beginStep s).InvAt s.clk.cycles where
  mem := h.mem
  cfg := h.cfg
  line := h.line
  started := h.started
  held := h.held
  iff := h.iff

end State.InvAt
end Sys2Proof.Machine
end

section
/-! What everything that happens inside a step has in common: it composes, and each shared operation has it. -/

namespace Sys2Proof.Machine

/-- From `s` to `t`, `k` T-states pass and the ULA sees no stamp later than `n` T-states after `s`. ROM, the parameters, the
keys and the frame counter stay (R66, R67), no request is lost (R58, R59), and what holds at every moment of a step is
kept. -/
structure Passes (k n : Nat) (s t : State) : Prop where
  cycles : t.clk.cycles = s.clk.cycles + k
  stepT : t.clk.stepT = s.clk.stepT + k
  rom : t.rom = s.rom
  cfg : t.cfg = s.cfg
  keys : t.ula.keys = s.ula.keys
  frames : t.frameCounter = s.frameCounter
  intReq : t.ctl.intReq = s.ctl.intReq
  nmi : s.ctl.nmiPending = true → t.ctl.nmiPending = true
  inv : ∀ b, s.clk.cycles + n ≤ b → s.InvAt b → t.InvAt b

/-! ### What VSYNC leaves of the ULA (R517, R518) -/

@[simp] theorem startVsync_keys (s : State) : (startVsync s).ula.keys = s.ula.keys := by
  unfold startVsync; split <;> rfl
@[simp] theorem endVsync_keys (s : State) : (endVsync s).ula.keys = s.ula.keys := by
  unfold endVsync; split <;> rfl

namespace Passes

variable {k n : Nat} {s t : State}

theorem refl (n : Nat) (s : State) : Passes 0 n s s :=
  ⟨rfl, rfl, rfl, rfl, rfl, rfl, rfl, id, fun _ _ => id⟩

theorem trans {k' n' : Nat} {u : State} (h : Passes k n s t) (h' : Passes k' n' t u) (hn : k + n' ≤ n) :
    Passes (k + k') n s u where
  cycles := by rw [h'.cycles, h.cycles, Nat.add_assoc]
  stepT := by rw [h'.stepT, h.stepT, Nat.add_assoc]
  rom := h'.rom.trans h.rom
  cfg := h'.cfg.trans h.cfg
  keys := h'.keys.trans h.keys
  frames := h'.frames.trans h.frames
  intReq := h'.intReq.trans h.intReq
  nmi := h'.nmi ∘ h.nmi
  inv := fun b hb hs => h'.inv b (by rw [h.cycles]; omega) (h.inv b hb hs)

/-- A later bound on the stamps. -/
theorem mono {n' : Nat} (h : Passes k n s t) (hn : n ≤ n') : Passes k n' s t :=
  { h with inv := fun b hb => h.inv b (by omega) }

/-- Something that takes no T-states, and then the rest. -/
theorem zero_trans {u : State} (h : Passes 0 n s t) (h' : Passes k n t u) : Passes k n s u := by
  simpa using h.trans h' (by omega)

/-! ### The line timer, the fetch, and the end of an instruction -/

/-- A line boundary right now, as the acknowledge event makes it (R520). -/
theorem boundaryAt (n : Nat) (s : State) : Passes 0 n s (boundaryAt s.clk.cycles s) :=
  ⟨rfl, rfl, rfl, rfl, rfl, rfl, rfl, fun h => by simp [h], fun _ hb hs => hs.boundaryAt (by omega)⟩

theorem advanceTo {m : Nat} (hm : m ≤ n) : Passes 0 n s (advanceTo (s.clk.cycles + m) s) := by
  constructor
  case inv => exact fun b hb hs => hs.advanceTo (by omega)
  case intReq => rw [Machine.advanceTo, boundaries_ctl]
  case nmi =>
    intro h
    rw [Machine.advanceTo, boundaries_ctl, h]
    rfl
  all_goals simp

theorem videoFetch {m : Nat} (addr : Word) (raw : Byte) (hm : m ≤ n) :
    Passes 0 n s (videoFetch addr raw (s.clk.cycles + m) s) := by
  have ha := Passes.advanceTo (s := s) hm
  constructor
  case inv => exact fun b hb hs => hs.videoFetch (by omega) addr raw
  case intReq => rw [videoFetch_cases]; exact ha.intReq
  case nmi => rw [videoFetch_cases]; exact ha.nmi
  all_goals simp

theorem fetchM1 {j : Nat} (hj : 4 * j ≤ n) : Passes 0 n s (fetchM1 j s) :=
  { Passes.videoFetch (s := s) s.regs.pc (memRead s s.regs.pc) hj with
    inv := fun b hb hs => hs.fetchM1 (by omega)}

theorem withRegs (n : Nat) (s : State) (g : Regs) : Passes 0 n s (s.withRegs g) :=
  ⟨rfl, rfl, rfl, rfl, rfl, rfl, rfl, id, fun _ _ hs => hs.congr rfl rfl rfl rfl rfl rfl⟩

theorem fetchRest (d : Decoded) (s : State) : Passes 0 4 s (fetchRest d s) := by
  unfold Machine.fetchRest
  split
  · exact (Passes.fetchM1 (le_refl (4 * 1))).trans (.withRegs 4 _ _) (by omega)
  · exact .withRegs 4 _ _

/-- The last stamp of a fetch is that of its second M1 (R103). -/
theorem fetchDecoded (d : Decoded) (s : State) : Passes 0 4 s (fetchDecoded d s) :=
  (Passes.fetchM1 (by omega)).trans (.fetchRest d _) (by omega)

theorem tick_setQ (k : Nat) (q : Byte) (s : State) : Passes k k s (tick k (setQ q s)) :=
  ⟨rfl, rfl, rfl, rfl, rfl, rfl, rfl, id, fun _ _ hs => hs.congr rfl rfl rfl rfl rfl rfl⟩

/-! ### Memory and the I/O bus -/

theorem memWrite (n : Nat) (s : State) (addr : Word) (v : Byte) : Passes 0 n s (memWrite s addr v) := by
  constructor
  case inv => exact fun b _ hs => hs.memWrite addr v
  all_goals simp

theorem push16 (n : Nat) (v : Word) (s : State) : Passes 0 n s (push16 v s) :=
  ((memWrite n s _ _).trans (memWrite n _ _ _) (by omega)).trans (.withRegs n _ _) (by omega)

/-- A change of the ULA alone. -/
theorem of_ula {u : Ula} (hkeys : u.keys = s.ula.keys) (hinv : ∀ b, s.InvAt b → { s with ula := u }.InvAt b) :
    Passes 0 n s { s with ula := u } :=
  ⟨rfl, rfl, rfl, rfl, hkeys, rfl, rfl, id, fun b _ => hinv b⟩

theorem startVsync (n : Nat) (s : State) : Passes 0 n s (startVsync s) := by
  rw [startVsync_frame]
  exact of_ula (startVsync_keys s) fun b hs => startVsync_frame s ▸ hs.startVsync

theorem endVsync (n : Nat) (s : State) : Passes 0 n s (endVsync s) := by
  rw [endVsync_frame]
  exact of_ula (endVsync_keys s) fun b hs => endVsync_frame s ▸ hs.endVsync

theorem ioRead {m : Nat} (port : Word) (hm : m ≤ n) : Passes 0 n s (ioRead port (s.clk.cycles + m) s).2 := by
  have ha := Passes.advanceTo (s := s) hm
  rw [ioRead_eq]
  split
  · exact ha
  · exact ha.trans (.startVsync n _) (by omega)

theorem ioWrite {m : Nat} (port : Word) (v : Byte) (hm : m ≤ n) :
    Passes 0 n s (ioWrite port v (s.clk.cycles + m) s) := by
  have he := (Passes.advanceTo (s := s) hm).trans (.endVsync n _) (by omega)
  have hinv : ∀ b, s.clk.cycles + n ≤ b → s.InvAt b → (Machine.ioWrite port v (s.clk.cycles + m) s).InvAt b :=
    fun b hb hs => hs.ioWrite (by omega) port v
  rw [ioWrite_eq] at hinv ⊢
  exact { he with inv := hinv }

end Passes

end Sys2Proof.Machine
end

section
/-! What the body of an ordinary instruction may do: one lemma per shared operation, so that an instruction's body is a
chain of them. -/

namespace Sys2Proof.Machine

/-- The registers `g'` keep I, R and the shadow set of `g` (R42, R49, R50), and F unless `flags` allows it to change. -/
structure Regs.Keeps (flags : Bool) (g g' : Regs) : Prop where
  i : g'.i = g.i
  r : g'.r = g.r
  afAlt : g'.afAlt = g.afAlt
  bcAlt : g'.bcAlt = g.bcAlt
  deAlt : g'.deAlt = g.deAlt
  hlAlt : g'.hlAlt = g.hlAlt
  f : flags = false → g'.f = g.f

/-- What the body of an ordinary instruction of `n` T-states may do, before its end: it keeps the special registers and of
the control bits all but `nmi_pending`, which the line timer may set. -/
structure Body (flags : Bool) (n : Nat) (s u : State) : Prop extends Passes 0 n s u where
  regs : s.regs.Keeps flags u.regs
  ctl : u.ctl = { s.ctl with nmiPending := u.ctl.nmiPending }

namespace Regs.Keeps

variable {fl : Bool} {g g' g'' : Regs}

theorem refl (fl : Bool) (g : Regs) : g.Keeps fl g := ⟨rfl, rfl, rfl, rfl, rfl, rfl, fun _ => rfl⟩

theorem trans (h : g.Keeps fl g') (h' : g'.Keeps fl g'') : g.Keeps fl g'' :=
  ⟨h'.i.trans h.i, h'.r.trans h.r, h'.afAlt.trans h.afAlt, h'.bcAlt.trans h.bcAlt, h'.deAlt.trans h.deAlt,
    h'.hlAlt.trans h.hlAlt, fun hf => (h'.f hf).trans (h.f hf)⟩

/-- New values in any of the other registers. -/
theorem others (g : Regs) (a b c d e h l : Byte) (ix iy sp pc wz : Word) :
    g.Keeps fl
      { g with a := a, b := b, c := c, d := d, e := e, h := h, l := l, ix := ix, iy := iy, sp := sp, pc := pc,
               wz := wz } :=
  ⟨rfl, rfl, rfl, rfl, rfl, rfl, fun _ => rfl⟩

/-- New values in any of the other registers and in F, where F may change. -/
theorem othersF (g : Regs) (a f b c d e h l : Byte) (ix iy sp pc wz : Word) :
    g.Keeps true
      { g with a := a, f := f, b := b, c := c, d := d, e := e, h := h, l := l, ix := ix, iy := iy, sp := sp, pc := pc,
               wz := wz } :=
  ⟨rfl, rfl, rfl, rfl, rfl, rfl, fun h => absurd h.symm Bool.false_ne_true⟩

theorem setR8 (r : Reg8) (v : Byte) (g : Regs) : g.Keeps fl (setR8 r v g) := by
  obtain ⟨hf, haf, hbc, hde, hhl, -, -, -, -, -, hi, hr⟩ := setR8_frame r v g
  exact ⟨hi, hr, haf, hbc, hde, hhl, fun _ => hf⟩

theorem setRP (p : RP) (v : Word) (g : Regs) : g.Keeps fl (setRP p v g) := by
  cases p <;> exact others ..

theorem setXY (xy : XY) (v : Word) (g : Regs) : g.Keeps fl (setXY xy v g) := by
  cases xy <;> exact others ..

theorem setHalf (xy : XY) (h : Half) (v : Byte) (g : Regs) : g.Keeps fl (setHalf xy h v g) := by
  cases h <;> exact setXY xy _ g

/-- A new F, where F may change. -/
theorem withF (h : g.Keeps true g') (f : Byte) : g.Keeps true { g' with f := f } :=
  ⟨h.i, h.r, h.afAlt, h.bcAlt, h.deAlt, h.hlAlt, fun hf => absurd hf.symm Bool.false_ne_true⟩

end Regs.Keeps

/-! ### The control bits after an I/O access -/

theorem advanceTo_ctl (n : Nat) (s : State) :
    (advanceTo n s).ctl = { s.ctl with nmiPending := (advanceTo n s).ctl.nmiPending } := by
  rw [advanceTo, boundaries_ctl]

theorem ioRead_ctl (port : Word) (n : Nat) (s : State) :
    (ioRead port n s).2.ctl = { s.ctl with nmiPending := (ioRead port n s).2.ctl.nmiPending } := by
  have h : (ioRead port n s).2.ctl = (advanceTo n s).ctl := by
    rw [ioRead_eq]
    split
    · rfl
    · rw [startVsync_frame]
  rw [h]
  exact advanceTo_ctl n s

theorem ioWrite_ctl (port : Word) (v : Byte) (n : Nat) (s : State) :
    (ioWrite port v n s).ctl = { s.ctl with nmiPending := (ioWrite port v n s).ctl.nmiPending } := by
  have h : (ioWrite port v n s).ctl = (advanceTo n s).ctl := by
    rw [ioWrite_eq, endVsync_frame]
    rfl
  rw [h]
  exact advanceTo_ctl n s

namespace Body

variable {fl : Bool} {n : Nat} {s t u : State}

theorem refl (fl : Bool) (n : Nat) (s : State) : Body fl n s s := ⟨.refl n s, .refl fl _, rfl⟩

theorem trans (h : Body fl n s t) (h' : Body fl n t u) : Body fl n s u := by
  refine ⟨h.toPasses.trans h'.toPasses (by omega), h.regs.trans h'.regs, ?_⟩
  rw [h'.ctl, h.ctl]

/-- A later bound on the stamps. -/
theorem mono {n' : Nat} (h : Body fl n s u) (hn : n ≤ n') : Body fl n' s u := ⟨h.toPasses.mono hn, h.regs, h.ctl⟩

theorem ite {c : Prop} [Decidable c] {u' : State} (h : Body fl n s u) (h' : Body fl n s u') :
    Body fl n s (if c then u else u') := by
  split
  · exact h
  · exact h'

/-! ### Registers -/

theorem withRegs {g : Regs} (hg : s.regs.Keeps fl g) : Body fl n s (s.withRegs g) := ⟨.withRegs n s g, hg, rfl⟩

theorem setR8 (r : Reg8) (v : Byte) : Body fl n s (s.withRegs (setR8 r v s.regs)) := withRegs (.setR8 r v _)

theorem setRP (p : RP) (v : Word) : Body fl n s (s.withRegs (setRP p v s.regs)) := withRegs (.setRP p v _)

theorem setHL (v : Word) : Body fl n s (s.withRegs (setHL v s.regs)) := setRP .hl v

theorem setXY (xy : XY) (v : Word) : Body fl n s (s.withRegs (setXY xy v s.regs)) := withRegs (.setXY xy v _)

theorem setHalf (xy : XY) (h : Half) (v : Byte) : Body fl n s (s.withRegs (setHalf xy h v s.regs)) :=
  withRegs (.setHalf xy h v _)

theorem setWZ (v : Word) : Body fl n s (setWZ v s) := withRegs (.others ..)

theorem latchEA (xy : XY) (d : Byte) : Body fl n s (latchEA xy d s) := setWZ _

theorem jumpTo (addr : Word) : Body fl n s (jumpTo addr s) := withRegs (.others ..)

theorem jumpLatched (addr : Word) : Body fl n s (jumpLatched addr s) :=
  withRegs (.others ..)

theorem popPC : Body fl n s (popPC s) := withRegs (.others ..)

theorem putF (f : Byte) : Body true n s (putF f s) := withRegs ((Regs.Keeps.refl true _).withF f)

theorem putAF (x : Byte × Byte) : Body true n s (putAF x s) := withRegs ((Regs.Keeps.setR8 .a x.1 _).withF x.2)

theorem putR8 (r : Reg8) (x : Byte × Byte) : Body true n s (putR8 r x s) :=
  withRegs ((Regs.Keeps.setR8 r x.1 _).withF x.2)

theorem putHalf (xy : XY) (h : Half) (x : Byte × Byte) : Body true n s (putHalf xy h x s) :=
  withRegs ((Regs.Keeps.setHalf xy h x.1 _).withF x.2)

/-! ### Memory -/

theorem memWrite (addr : Word) (v : Byte) : Body fl n s (memWrite s addr v) := by
  refine ⟨.memWrite n s addr v, ?_, ?_⟩
  · rw [memWrite_regs]
    exact .refl fl _
  · rw [memWrite_ctl]

theorem memWrite16 (addr v : Word) : Body fl n s (memWrite16 s addr v) := (memWrite _ _).trans (memWrite _ _)

theorem push16 (v : Word) : Body fl n s (push16 v s) :=
  ((memWrite _ _).trans (memWrite _ _)).trans (withRegs (.others ..))

theorem modifyMem (addr : Word) (g : Byte → Byte) : Body fl n s (modifyMem addr g s) := memWrite _ _

theorem storeCopy (addr : Word) (r : Reg8) (v : Byte) : Body fl n s (storeCopy addr r v s) :=
  (memWrite _ _).trans (setR8 r v)

theorem putMem (addr : Word) (x : Byte × Byte) : Body true n s (putMem addr x s) := (memWrite _ _).trans (putF _)

/-! ### The I/O bus -/

theorem ioRead {m : Nat} (hm : m ≤ n) (port : Word) : Body fl n s (ioRead port (s.clk.cycles + m) s).2 := by
  refine ⟨.ioRead port hm, ?_, ioRead_ctl ..⟩
  rw [ioRead_regs]
  exact .refl fl _

theorem ioWrite {m : Nat} (hm : m ≤ n) (port : Word) (v : Byte) :
    Body fl n s (ioWrite port v (s.clk.cycles + m) s) := by
  refine ⟨.ioWrite port v hm, ?_, ioWrite_ctl ..⟩
  rw [ioWrite_regs]
  exact .refl fl _

/-! ### Block instructions -/

theorem moveBlock (step : Word) : Body true n s (moveBlock step s) :=
  (memWrite _ _).trans (withRegs (.othersF ..))

theorem compareBlock (step : Word) : Body true n s (compareBlock step s) :=
  withRegs (.othersF ..)

theorem inBlock (step : Word) (hn : 9 ≤ n) : Body true n s (inBlock step s) :=
  ((ioRead hn _).trans (memWrite _ _)).trans
    (withRegs (.othersF ..))

theorem outBlock (step : Word) (hn : 12 ≤ n) : Body true n s (outBlock step s) :=
  ((setR8 .b (s.regs.b - 1)).trans (ioWrite hn _ _)).trans
    (withRegs (.othersF ..))

/-- The free-value counter is none of what a body keeps (log 5). -/
theorem repeatFlags (mask : Byte) : Body true n s (repeatFlags mask s) := by
  rcases repeatFlags_cases mask s with ⟨-, h⟩ | ⟨-, h⟩
  · rw [h]
    exact .refl true n s
  · rw [h]
    have hf : Body true n s (Machine.putF ((s.regs.f &&& ~~~mask) ||| (Config.freeRepeatFlags s.freeIx &&& mask)) s) :=
      putF _
    exact { hf with inv := fun b hb hs => (hf.inv b hb hs).congr rfl rfl rfl rfl rfl rfl }

end Body

end Sys2Proof.Machine
end

section
/-! How every instruction completes, the rows of leading bytes aside (`isPrefixRow`): said once, by one case split over the
constructors of `Instr`. -/

namespace Sys2Proof.Machine

/-- What the instruction `i` leaves of the special registers, the control bits, the shadow set and F (R42, R47, R49 to R52,
R55 to R60). -/
structure Writes (i : Instr) (s u : State) : Prop where
  regI : i ≠ .ldIA → u.regs.i = s.regs.i
  regR : i ≠ .ldRA → u.regs.r = s.regs.r
  iff2 : i ≠ .di → i ≠ .ei → u.ctl.iff2 = s.ctl.iff2
  iff1 : i ≠ .di → i ≠ .ei → i ≠ .reti → i ≠ .retn → (∀ y, i ≠ .retnMirror y) → u.ctl.iff1 = s.ctl.iff1
  im : i ∉ [.im0, .im0Mirror4E, .im0Mirror66, .im0Mirror6E, .im1, .im1Mirror, .im2, .im2Mirror] →
    u.ctl.im = s.ctl.im
  halted : i ≠ .halt → u.ctl.halted = s.ctl.halted
  eiBlock : u.ctl.eiBlock = s.ctl.eiBlock ∨ i = .ei ∧ u.ctl.iff1 = true
  ldair : i ≠ .ldAI → i ≠ .ldAR → u.ctl.ldair = s.ctl.ldair
  prefixBlock : u.ctl.prefixBlock = s.ctl.prefixBlock
  afAlt : i ≠ .exAfAf → u.regs.afAlt = s.regs.afAlt
  alts : i ≠ .exx → u.regs.bcAlt = s.regs.bcAlt ∧ u.regs.deAlt = s.regs.deAlt ∧ u.regs.hlAlt = s.regs.hlAlt
  f : writesFlags i = false → i ≠ .exAfAf → i ≠ .popQq .af → u.regs.f = s.regs.f

/-- The outcome `o` of the instruction `i` in `s`: a body that keeps what the rules say, then the T-states of the opcode
table (R617) and `Q` as R54 gives it. -/
def Completes (i : Instr) (s : State) (o : Host.Outcome State Fault Refusal) : Prop :=
  ∃ u, Passes 0 (tStates i s) s u ∧ Writes i s u ∧
    o = .next (tick (tStates i s) (setQ (if writesFlags i then u.regs.f else 0x00) u))

/-- An ordinary body writes no special register and no control bit. -/
theorem Body.writes {i : Instr} {fl : Bool} {n : Nat} {s u : State} (h : Body fl n s u) (hw : writesFlags i = fl) :
    Writes i s u := by
  have hctl := h.ctl
  have hg := h.regs
  constructor
  case regI => exact fun _ => hg.i
  case regR => exact fun _ => hg.r
  case afAlt => exact fun _ => hg.afAlt
  case alts => exact fun _ => ⟨hg.bcAlt, hg.deAlt, hg.hlAlt⟩
  case f => exact fun hf _ _ => hg.f (hw.symm.trans hf)
  case eiBlock => exact .inl (by rw [hctl])
  all_goals intros; rw [hctl]

namespace Completes

variable {i : Instr} {n : Nat} {s u : State}

/-! ### The four ways an ordinary instruction ends -/

theorem endPlain (ht : tStates i s = n) (hw : writesFlags i = false) (hp : Passes 0 n s u) (hwr : Writes i s u) :
    Completes i s (endPlain n u) := by
  subst ht
  exact ⟨u, hp, hwr, by rw [hw]; rfl⟩

theorem endFlags (ht : tStates i s = n) (hw : writesFlags i = true) (hp : Passes 0 n s u) (hwr : Writes i s u) :
    Completes i s (endFlags n u) := by
  subst ht
  exact ⟨u, hp, hwr, by rw [hw]; rfl⟩

theorem plain (ht : tStates i s = n) (hw : writesFlags i = false) (h : Body false n s u) :
    Completes i s (Machine.endPlain n u) :=
  endPlain ht hw h.toPasses (h.writes hw)

theorem flags (ht : tStates i s = n) (hw : writesFlags i = true) (h : Body true n s u) :
    Completes i s (Machine.endFlags n u) :=
  endFlags ht hw h.toPasses (h.writes hw)

theorem memRepeat {again : Bool} (ht : tStates i s = if again then 21 else 16) (hw : writesFlags i = true)
    (h : Body true 16 s u) : Completes i s (endMemRepeat again u) := by
  rcases endMemRepeat_cases again u with ⟨rfl, e⟩ | ⟨rfl, e⟩ <;> rw [e]
  · exact flags ht hw ((h.mono (by decide)).trans (((Body.repeatFlags _).trans (.jumpTo _)).trans (.setWZ _)))
  · exact flags ht hw h

theorem ioRepeat {again : Bool} (ht : tStates i s = if again then 21 else 16) (hw : writesFlags i = true)
    (h : Body true 16 s u) : Completes i s (endIoRepeat again u) := by
  rcases endIoRepeat_cases again u with ⟨rfl, e⟩ | ⟨rfl, e⟩ <;> rw [e]
  · exact flags ht hw ((h.mono (by decide)).trans ((Body.repeatFlags _).trans (.jumpTo _)))
  · exact flags ht hw h

/-- A condition decides between two ways to end. -/
theorem ite {c : Prop} [Decidable c] {o o' : Host.Outcome State Fault Refusal} (h : c → Completes i s o)
    (h' : ¬c → Completes i s o') : Completes i s (if c then o else o') := by
  split
  · next hc => exact h hc
  · next hc => exact h' hc

end Completes

/-! ### The instructions that write a special register or a control bit -/

/-- A change of the control bits that keeps the requests and that IFF1 implies IFF2. -/
theorem Passes.of_ctl (n : Nat) {s : State} {c : Ctl} (hreq : c.intReq = s.ctl.intReq)
    (hnmi : c.nmiPending = s.ctl.nmiPending)
    (hiff : (s.ctl.iff1 = true → s.ctl.iff2 = true) → c.iff1 = true → c.iff2 = true) :
    Passes 0 n s { s with ctl := c } :=
  ⟨rfl, rfl, rfl, rfl, rfl, rfl, hreq, fun h => hnmi.trans h, fun _ _ hs => { hs with iff := hiff hs.iff }⟩

/-- `IFF1 <- IFF2` after the return address has been popped (R401, R402). -/
theorem Passes.returnFromInterrupt (n : Nat) (s : State) : Passes 0 n s (returnFromInterrupt s) :=
  (Passes.withRegs n s { s.regs with sp := s.regs.sp + 2, pc := popValue s, wz := popValue s }).trans
    (.of_ctl n (c := { s.ctl with iff1 := s.ctl.iff2 }) rfl rfl fun _ => id) (by omega)

namespace Completes

variable (s : State)

theorem di : Completes .di s (execDi s) :=
  .endPlain rfl rfl (.of_ctl 4 rfl rfl fun _ => id)
    { (Body.refl false 4 s).writes rfl with
      iff1 := fun h => absurd rfl h
      iff2 := fun h => absurd rfl h
      eiBlock := .inl rfl }

theorem ei : Completes .ei s (execEi s) :=
  .endPlain rfl rfl (.of_ctl 4 rfl rfl fun _ _ => rfl)
    { (Body.refl false 4 s).writes rfl with
      iff1 := fun _ h => absurd rfl h
      iff2 := fun _ h => absurd rfl h
      eiBlock := .inr ⟨rfl, rfl⟩ }

theorem halt : Completes .halt s (execHalt s) :=
  .endPlain rfl rfl (.of_ctl 4 rfl rfl id) { (Body.refl false 4 s).writes rfl with halted := fun h => absurd rfl h }

/-- The eight forms of `IM` (R464 to R466). -/
theorem setIM {i : Instr} (m : IntMode) (ht : tStates i s = 8) (hw : writesFlags i = false)
    (hi : i ∈ [.im0, .im0Mirror4E, .im0Mirror66, .im0Mirror6E, .im1, .im1Mirror, .im2, .im2Mirror]) :
    Completes i s (Machine.endPlain 8 (setIM m s)) :=
  .endPlain ht hw (.of_ctl 8 rfl rfl id)
    { (Body.refl false 8 s).writes hw with im := fun h => absurd hi h }

theorem reti : Completes .reti s (execReti s) :=
  .endPlain rfl rfl (.returnFromInterrupt 14 s)
    { (Body.popPC (fl := false) (n := 14)).writes rfl with
      iff1 := fun _ _ h => absurd rfl h
      eiBlock := .inl rfl }

theorem retn : Completes .retn s (execRetn s) :=
  .endPlain rfl rfl (.returnFromInterrupt 14 s)
    { (Body.popPC (fl := false) (n := 14)).writes rfl with
      iff1 := fun _ _ _ h => absurd rfl h
      eiBlock := .inl rfl }

theorem retnMirror (y : Fin 8) : Completes (.retnMirror y) s (execRetnMirror y s) :=
  .endPlain rfl rfl (.returnFromInterrupt 14 s)
    { (Body.popPC (fl := false) (n := 14)).writes rfl with
      iff1 := fun _ _ _ _ h => absurd rfl (h y)
      eiBlock := .inl rfl }

theorem ldAI : Completes .ldAI s (execLdAI s) :=
  have hbody : Body true 9 s (putAF (s.regs.i, ldAirF s.regs.i s.regs.f s.ctl.iff2) s) := .putAF _
  .endFlags rfl rfl (hbody.toPasses.trans (.of_ctl 9 (c := { s.ctl with ldair := true }) rfl rfl id) (by omega))
    { hbody.writes rfl with ldair := fun h => absurd rfl h }

theorem ldAR : Completes .ldAR s (execLdAR s) :=
  have hbody : Body true 9 s (putAF (s.regs.r, ldAirF s.regs.r s.regs.f s.ctl.iff2) s) := .putAF _
  .endFlags rfl rfl (hbody.toPasses.trans (.of_ctl 9 (c := { s.ctl with ldair := true }) rfl rfl id) (by omega))
    { hbody.writes rfl with ldair := fun _ h => absurd rfl h }

theorem ldIA : Completes .ldIA s (execLdIA s) :=
  .endPlain rfl rfl (.withRegs 9 s _) { (Body.refl false 9 s).writes rfl with regI := fun h => absurd rfl h }

theorem ldRA : Completes .ldRA s (execLdRA s) :=
  .endPlain rfl rfl (.withRegs 9 s _) { (Body.refl false 9 s).writes rfl with regR := fun h => absurd rfl h }

theorem exAfAf : Completes .exAfAf s (execExAfAf s) :=
  .endPlain rfl rfl (.withRegs 4 s _)
    { (Body.refl false 4 s).writes rfl with afAlt := fun h => absurd rfl h, f := fun _ h => absurd rfl h }

theorem exx : Completes .exx s (execExx s) :=
  .endPlain rfl rfl (.withRegs 4 s _) { (Body.refl false 4 s).writes rfl with alts := fun h => absurd rfl h }

theorem popQq (qq : RP2) : Completes (.popQq qq) s (execPopQq qq s) := by
  cases qq
  case af =>
    exact .endPlain rfl rfl (.withRegs 10 s _) { (Body.refl false 10 s).writes rfl with f := fun _ _ h => absurd rfl h }
  all_goals exact .plain rfl rfl (.withRegs (.others ..))

end Completes

/-! ### When a repeating form repeats (R260, R430) -/

theorem moveBlock_bc (step : Word) (s : State) : (moveBlock step s).regs.bc = s.regs.bc - 1 := by
  rw [moveBlock_eq]
  exact bc_setBC _ s.regs

theorem compareBlock_bc (step : Word) (s : State) : (compareBlock step s).regs.bc = s.regs.bc - 1 :=
  bc_setBC _ s.regs

/-- Z after a comparison: the byte equals A (R265). -/
theorem compareBlock_flagZ (step : Word) (s : State) :
    flagZ (compareBlock step s).regs.f = (s.regs.a == memRead s s.regs.hl) := by
  have hz : flagZ (compareBlock step s).regs.f = (s.regs.a - memRead s s.regs.hl == 0) := flagZ_packF ..
  rw [hz, Bool.eq_iff_iff, beq_iff_eq, beq_iff_eq]
  exact sub_eq_zero

theorem inBlock_b (step : Word) (s : State) : (inBlock step s).regs.b = s.regs.b - 1 := by
  obtain ⟨v, u, -, e⟩ := inBlock_eq step s
  rw [e]

theorem outBlock_b (step : Word) (s : State) : (outBlock step s).regs.b = s.regs.b - 1 := by
  show (ioWrite _ _ _ _).regs.b = _
  rw [ioWrite_regs]
  rfl

/-! ### Every instruction -/

theorem exec_completes (s : State) : ∀ i : Instr, isPrefixRow i = false → Completes i s (exec i s)
  -- the special registers and the control bits
  | .di, _ => .di s
  | .ei, _ => .ei s
  | .halt, _ => .halt s
  | .im0, _ | .im0Mirror4E, _ | .im0Mirror66, _ | .im0Mirror6E, _ => .setIM s .im0 rfl rfl (by simp)
  | .im1, _ | .im1Mirror, _ => .setIM s .im1 rfl rfl (by simp)
  | .im2, _ | .im2Mirror, _ => .setIM s .im2 rfl rfl (by simp)
  | .reti, _ => .reti s
  | .retn, _ => .retn s
  | .retnMirror y, _ => .retnMirror s y
  | .ldAI, _ => .ldAI s
  | .ldAR, _ => .ldAR s
  | .ldIA, _ => .ldIA s
  | .ldRA, _ => .ldRA s
  | .exAfAf, _ => .exAfAf s
  | .exx, _ => .exx s
  | .popQq qq, _ => .popQq s qq
  -- nothing but PC
  | .nop, _ | .nopEd00 _, _ | .nopEd77 _, _ | .nopEd80 _, _ | .nopEdC0 _, _ | .nopEdA4 _ _, _ | .nopEdAC _ _, _ =>
    .plain rfl rfl (.refl ..)
  -- loads and exchanges between registers
  | .ldRR _ _, _ | .ldRN _ _, _ | .ldRMemHl _, _ | .ldRXyh _ _ _, _ => .plain rfl rfl (.setR8 ..)
  | .ldRMemXyd _ _ _, _ => .plain rfl rfl ((Body.latchEA ..).trans (.setR8 ..))
  | .ldXyhR _ _ _, _ | .ldXyhXyg _ _ _, _ | .ldXyhN _ _ _, _ => .plain rfl rfl (.setHalf ..)
  | .ldAMemBc, _ | .ldAMemDe, _ | .ldSpHl, _ | .exDeHl, _ | .ldAMemNn _, _ | .ldSpXy _, _ =>
    .plain rfl rfl (.withRegs (.others ..))
  | .ldDdNn _ _, _ | .incSs _, _ | .decSs _, _ => .plain rfl rfl (.setRP ..)
  | .ldDdMemNn _ _, _ => .plain rfl rfl ((Body.setRP ..).trans (.setWZ ..))
  | .ldHlMemNn _, _ => .plain rfl rfl ((Body.setHL ..).trans (.setWZ ..))
  | .ldXyNn _ _, _ | .incXy _, _ | .decXy _, _ => .plain rfl rfl (.setXY ..)
  | .ldXyMemNn _ _, _ => .plain rfl rfl ((Body.setXY ..).trans (.setWZ ..))
  | .popXy xy, _ => .plain rfl rfl ((Body.withRegs (.others ..)).trans (.setXY xy _))
  -- stores
  | .ldMemHlR _, _ | .ldMemHlN _, _ => .plain rfl rfl (.memWrite ..)
  | .ldMemXydR _ _ _, _ | .ldMemXydN _ _ _, _ => .plain rfl rfl ((Body.latchEA ..).trans (.memWrite ..))
  | .ldMemBcA, _ | .ldMemDeA, _ | .ldMemNnA _, _ => .plain rfl rfl ((Body.memWrite ..).trans (.setWZ ..))
  | .ldMemNnHl _, _ | .ldMemNnXy _ _, _ | .ldMemNnDd _ _, _ =>
    .plain rfl rfl ((Body.memWrite16 ..).trans (.setWZ ..))
  | .pushQq _, _ | .pushXy _, _ => .plain rfl rfl (.push16 _)
  | .exSpHl, _ => .plain rfl rfl (((Body.memWrite16 ..).trans (.setHL ..)).trans (.setWZ ..))
  | .exSpXy _, _ => .plain rfl rfl (((Body.memWrite16 ..).trans (.setXY ..)).trans (.setWZ ..))
  -- jumps, calls and returns
  | .jpNn _, _ | .jr _, _ => .plain rfl rfl (.jumpLatched _)
  | .jpHl, _ | .jpXy _, _ => .plain rfl rfl (.jumpTo _)
  | .jpCcNn _ _, _ => .plain rfl rfl ((Body.setWZ _).trans (.ite (.jumpTo _) (.refl ..)))
  | .jrCc _ _, _ => .ite (fun h => .plain (if_pos h) rfl (.jumpLatched _)) fun h => .plain (if_neg h) rfl (.refl ..)
  | .djnz _, _ =>
    .ite (fun h => .plain (if_pos h) rfl ((Body.setR8 .b _).trans (.jumpLatched _))) fun h =>
      .plain (if_neg h) rfl (.setR8 .b _)
  | .callNn _, _ | .rst _, _ => .plain rfl rfl ((Body.push16 _).trans (.jumpLatched _))
  | .callCcNn _ _, _ =>
    .ite (fun h => .plain (if_pos h) rfl ((Body.push16 _).trans (.jumpLatched _))) fun h =>
      .plain (if_neg h) rfl (.setWZ _)
  | .ret, _ => .plain rfl rfl .popPC
  | .retCc _, _ => .ite (fun h => .plain (if_pos h) rfl .popPC) fun h => .plain (if_neg h) rfl (.refl ..)
  -- A and F from A and an operand
  | .addAR _, _ | .adcAR _, _ | .subR _, _ | .sbcAR _, _ | .andR _, _ | .xorR _, _ | .orR _, _ | .addAMemHl, _
  | .adcAMemHl, _ | .subMemHl, _ | .sbcAMemHl, _ | .andMemHl, _ | .xorMemHl, _ | .orMemHl, _ | .addAN _, _
  | .adcAN _, _ | .subN _, _ | .sbcAN _, _ | .andN _, _ | .xorN _, _ | .orN _, _ | .addAXyh _ _, _
  | .adcAXyh _ _, _ | .subXyh _ _, _ | .sbcAXyh _ _, _ | .andXyh _ _, _ | .xorXyh _ _, _ | .orXyh _ _, _
  | .rlca, _ | .rrca, _ | .rla, _ | .rra, _ | .daa, _ | .cpl, _ | .neg, _ | .negMirror _, _ =>
    .flags rfl rfl (.putAF _)
  | .addAMemXyd _ _, _ | .adcAMemXyd _ _, _ | .subMemXyd _ _, _ | .sbcAMemXyd _ _, _ | .andMemXyd _ _, _
  | .xorMemXyd _ _, _ | .orMemXyd _ _, _ => .flags rfl rfl ((Body.latchEA ..).trans (.putAF _))
  -- F alone
  | .scf, _ | .ccf, _ | .cpMemHl, _ | .cpR _, _ | .cpN _, _ | .cpXyh _ _, _ | .bitBR _ _, _ | .bitBMemHl _, _ =>
    .flags rfl rfl (.putF _)
  | .cpMemXyd _ _, _ | .bitBMemXyd _ _ _, _ | .bitBMemXydMirror _ _ _ _, _ =>
    .flags rfl rfl ((Body.latchEA ..).trans (.putF _))
  -- read, change, write back
  | .incR _, _ | .decR _, _ | .rlcR _, _ | .rrcR _, _ | .rlR _, _ | .rrR _, _ | .slaR _, _ | .sraR _, _
  | .sllR _, _ | .srlR _, _ => .flags rfl rfl (.putR8 ..)
  | .incXyh _ _, _ | .decXyh _ _, _ => .flags rfl rfl (.putHalf ..)
  | .incMemHl, _ | .decMemHl, _ | .rlcMemHl, _ | .rrcMemHl, _ | .rlMemHl, _ | .rrMemHl, _ | .slaMemHl, _
  | .sraMemHl, _ | .sllMemHl, _ | .srlMemHl, _ => .flags rfl rfl (.putMem ..)
  | .incMemXyd _ _, _ | .decMemXyd _ _, _ | .rlcMemXyd _ _, _ | .rrcMemXyd _ _, _ | .rlMemXyd _ _, _
  | .rrMemXyd _ _, _ | .slaMemXyd _ _, _ | .sraMemXyd _ _, _ | .sllMemXyd _ _, _ | .srlMemXyd _ _, _ =>
    .flags rfl rfl ((Body.latchEA ..).trans (.putMem ..))
  | .rlcMemXydR _ _ _, _ | .rrcMemXydR _ _ _, _ | .rlMemXydR _ _ _, _ | .rrMemXydR _ _ _, _ | .slaMemXydR _ _ _, _
  | .sraMemXydR _ _ _, _ | .sllMemXydR _ _ _, _ | .srlMemXydR _ _ _, _ =>
    .flags rfl rfl (((Body.latchEA ..).trans (.storeCopy ..)).trans (.putF _))
  | .rld, _ | .rrd, _ => .flags rfl rfl (((Body.memWrite ..).trans (.putAF _)).trans (.setWZ _))
  | .setBR _ _, _ | .resBR _ _, _ => .plain rfl rfl (.setR8 ..)
  | .setBMemHl _, _ | .resBMemHl _, _ => .plain rfl rfl (.modifyMem ..)
  | .setBMemXyd _ _ _, _ | .resBMemXyd _ _ _, _ => .plain rfl rfl ((Body.latchEA ..).trans (.modifyMem ..))
  | .setBMemXydR _ _ _ _, _ | .resBMemXydR _ _ _ _, _ => .plain rfl rfl ((Body.latchEA ..).trans (.storeCopy ..))
  -- 16-bit arithmetic
  | .addHlSs _, _ | .adcHlSs _, _ | .sbcHlSs _, _ =>
    .flags rfl rfl (((Body.setHL _).trans (.setWZ _)).trans (.putF _))
  | .addXyPp xy _, _ => .flags rfl rfl (((Body.setXY xy _).trans (.setWZ _)).trans (.putF _))
  -- input and output
  | .inAN _, _ => .plain rfl rfl ((Body.ioRead (by decide) _).trans (.withRegs (.others ..)))
  | .inRC r, _ => .flags rfl rfl (((Body.ioRead (by decide) _).trans (.putR8 r _)).trans (.setWZ _))
  | .inFC, _ => .flags rfl rfl (((Body.ioRead (by decide) _).trans (.putF _)).trans (.setWZ _))
  | .outNA _, _ | .outCR _, _ | .outC0, _ => .plain rfl rfl ((Body.ioWrite (by decide) ..).trans (.setWZ _))
  -- block instructions
  | .ldi, _ | .ldd, _ => .flags rfl rfl (.moveBlock _)
  | .cpi, _ | .cpd, _ => .flags rfl rfl (.compareBlock _)
  | .ini, _ | .ind, _ => .flags rfl rfl (.inBlock _ (by decide))
  | .outi, _ | .outd, _ => .flags rfl rfl (.outBlock _ (by decide))
  | .ldir, _ | .lddr, _ => .memRepeat (by rw [moveBlock_bc]; rfl) rfl (.moveBlock _)
  | .cpir, _ | .cpdr, _ => .memRepeat (by rw [compareBlock_bc, compareBlock_flagZ]; rfl) rfl (.compareBlock _)
  | .inir, _ | .indr, _ => .ioRepeat (by rw [inBlock_b]; rfl) rfl (.inBlock _ (by decide))
  | .otir, _ | .otdr, _ => .ioRepeat (by rw [outBlock_b]; rfl) rfl (.outBlock _ (by decide))

end Sys2Proof.Machine
end

section
/-! What a step can do, said once: from an acceptance, a halt cycle or an instruction, `Passes` up to the end of the step. -/

namespace Sys2Proof.Machine

/-! ### What the bytes at PC decode to (R137) -/

theorem isPrefixRow_decodeAluN (y : Nat) (n : Byte) : isPrefixRow (decodeAluN y n) = false := by
  unfold decodeAluN
  split <;> rfl

theorem isPrefixRow_decodeBase {op : Byte} (h : isPrefixByte op = false) (b1 b2 : Byte) :
    isPrefixRow (decodeBase op b1 b2).1 = false := by
  have h0 : ∀ o : Byte, isPrefixByte o = false → isPrefixRow (decodeBase o 0 0).1 = false := by decide
  rw [← h0 op h]
  unfold decodeBase
  simp only []
  repeat' (first | split | rfl | simp only [isPrefixRow_decodeAluN])

theorem isPrefixRow_decodeXY {xy : XY} {op b1 b2 : Byte} {r : Instr × Nat} (h : decodeXY xy op b1 b2 = some r) :
    isPrefixRow r.1 = false := by
  have h0 : ∀ o : Byte, ((decodeXY .ix o 0 0).any fun r => isPrefixRow r.1) = false := by decide
  have hop : ((decodeXY xy op b1 b2).any fun r => isPrefixRow r.1) = false := by
    rw [← h0 op]
    unfold decodeXY decodeLdXY decodeAluXY
    simp only []
    repeat' (first | split | rfl)
  rw [h] at hop
  exact hop

/-- Four bytes decode to a whole instruction, or to an index byte that is ignored (R137, R468). -/
theorem decodeBytes_cases (b0 b1 b2 b3 : Byte) :
    isPrefixRow (decodeBytes b0 b1 b2 b3).instr = false ∨
      ∃ xy, xyOf b0 = some xy ∧ (decodeBytes b0 b1 b2 b3).instr = .indexPrefixIgnored xy b1 := by
  unfold decodeBytes
  split
  · exact .inl (isPrefixRow_decodeCB b1)
  · next hcb =>
    split
    · exact .inl (isPrefixRow_decodeED b1 b2 b3)
    · next hed =>
      split
      · next xy hxy =>
        split
        · exact .inl (isPrefixRow_decodeXYCB xy b2 b3)
        · split
          · next r hr => exact .inl (isPrefixRow_decodeXY hr)
          · exact .inr ⟨xy, hxy, rfl⟩
      · next hxy =>
        refine .inl (isPrefixRow_decodeBase ?_ b1 b2)
        unfold xyOf at hxy
        simp only [isPrefixByte, Bool.or_eq_false_iff, beq_eq_false_iff_ne]
        grind

/-- An instruction has one or two M1 cycles, and they are among its bytes (R141). -/
theorem decodeBytes_m1s (b0 b1 b2 b3 : Byte) :
    ((decodeBytes b0 b1 b2 b3).m1s = 1 ∨ (decodeBytes b0 b1 b2 b3).m1s = 2) ∧
      (decodeBytes b0 b1 b2 b3).m1s ≤ (decodeBytes b0 b1 b2 b3).len := by
  unfold decodeBytes
  simp only
  repeat' split
  all_goals simp

/-- What an ignored index byte is followed by in its step is a whole instruction. -/
theorem isPrefixRow_decodeBytes {b0 : Byte} (h : ¬(b0 = 0xDD ∨ b0 = 0xFD)) (b1 b2 b3 : Byte) :
    isPrefixRow (decodeBytes b0 b1 b2 b3).instr = false := by
  rcases decodeBytes_cases b0 b1 b2 b3 with hrow | ⟨xy, hxy, -⟩
  · exact hrow
  · unfold xyOf at hxy
    grind

/-! ### Times (R617) -/

/-- The rows of the opcode table that take 23 T-states: all of them have an index byte. -/
def takes23 (i : Instr) : Bool :=
  match i with
  | .incMemXyd _ _ | .decMemXyd _ _ | .exSpXy _ | .rlcMemXyd _ _ | .rlcMemXydR _ _ _ | .rrcMemXyd _ _
  | .rrcMemXydR _ _ _ | .rlMemXyd _ _ | .rlMemXydR _ _ _ | .rrMemXyd _ _ | .rrMemXydR _ _ _ | .slaMemXyd _ _
  | .slaMemXydR _ _ _ | .sraMemXyd _ _ | .sraMemXydR _ _ _ | .sllMemXyd _ _ | .sllMemXydR _ _ _ | .srlMemXyd _ _
  | .srlMemXydR _ _ _ | .resBMemXyd _ _ _ | .resBMemXydR _ _ _ _ | .setBMemXyd _ _ _ | .setBMemXydR _ _ _ _ => true
  | _ => false

theorem tStates_bounds (i : Instr) (s : State) (h : isPrefixRow i = false) : 4 ≤ tStates i s ∧ tStates i s ≤ 23 := by
  unfold tStates
  repeat' split
  all_goals first | omega | cases h

theorem tStates_le_of_not_takes23 (i : Instr) (s : State) (h : takes23 i = false) : tStates i s ≤ 21 := by
  unfold tStates
  repeat' split
  all_goals first | omega | cases h

theorem takes23_decodeBase (op b1 b2 : Byte) : takes23 (decodeBase op b1 b2).1 = false := by
  unfold decodeBase decodeAlu decodeAluN
  simp only []
  repeat' (first | split | rfl)

theorem takes23_decodeCB (op : Byte) : takes23 (decodeCB op) = false := by
  unfold decodeCB
  simp only []
  repeat' (first | split | rfl)

theorem takes23_decodeED (op b1 b2 : Byte) : takes23 (decodeED op b1 b2).1 = false := by
  unfold decodeED decodeBlock
  simp only []
  repeat' (first | split | rfl)

/-- What an ignored index byte is followed by takes at most 21 T-states. -/
theorem tStates_decodeBytes_le {b0 : Byte} (h : ¬(b0 = 0xDD ∨ b0 = 0xFD)) (b1 b2 b3 : Byte) (s : State) :
    tStates (decodeBytes b0 b1 b2 b3).instr s ≤ 21 := by
  have hxy : xyOf b0 = none := by
    unfold xyOf
    grind
  apply tStates_le_of_not_takes23
  unfold decodeBytes
  rw [hxy]
  split
  · exact takes23_decodeCB b1
  · split
    · exact takes23_decodeED b1 b2 b3
    · exact takes23_decodeBase b0 b1 b2

/-! ### Instructions -/

theorem fetchDecoded_ctl (d : Decoded) (s : State) :
    (fetchDecoded d s).ctl = { s.ctl with nmiPending := (fetchDecoded d s).ctl.nmiPending } := by
  rcases fetchDecoded_cases d s with h | h <;> rw [h]
  · exact fetchM1_ctl 0 s
  · show (fetchM1 1 (fetchM1 0 s)).ctl = { s.ctl with nmiPending := (fetchM1 1 (fetchM1 0 s)).ctl.nmiPending }
    rw [fetchM1_ctl 1, fetchM1_ctl 0]

/-- From `s`, a step has come to `t` with its `n` T-states done, and only its end is to come. -/
structure Runs (n : Nat) (s t : State) : Prop extends Passes n n s t where
  q : t.ctl.q = 0x00 ∨ t.ctl.q = t.regs.f
  eiBlock : s.ctl.eiBlock = false → t.ctl.eiBlock = true → t.ctl.iff1 = true

/-- Something that leaves `ei_block` alone, before the rest of the step. -/
theorem Passes.runs {k k' m n : Nat} {s t u : State} (h : Passes k m s t) (he : t.ctl.eiBlock = s.ctl.eiBlock)
    (h' : Runs k' t u) (hm : m ≤ n) (hn : n = k + k') : Runs n s u := by
  subst hn
  exact ⟨(h.mono hm).trans h'.toPasses le_rfl, h'.q, fun hs => h'.eiBlock (he.trans hs)⟩

/-- An instruction that completes, once its bytes are fetched. -/
theorem Completes.runs {i : Instr} {s t : State} (h : Completes i s (.next t)) : Runs (tStates i s) s t := by
  obtain ⟨u, hp, hw, e⟩ := h
  injection e with e
  subst e
  refine ⟨hp.zero_trans (.tick_setQ (tStates i s) _ u), ?_, ?_⟩
  · show (if writesFlags i then u.regs.f else 0x00) = 0x00 ∨ (if writesFlags i then u.regs.f else 0x00) = u.regs.f
    cases writesFlags i
    · exact .inl rfl
    · exact .inr rfl
  · intro hs (hu : u.ctl.eiBlock = true)
    rcases hw.eiBlock with h | ⟨-, h⟩
    · rw [h, hs] at hu
      cases hu
    · exact h

theorem exec_runs {i : Instr} {s t : State} (hi : isPrefixRow i = false) (h : exec i s = .next t) :
    Runs (tStates i s) s t :=
  Completes.runs (h ▸ exec_completes s i hi)

/-- An instruction with its fetch: the last stamp of the fetch is 4 T-states after its first (R103). -/
theorem exec_fetchDecoded_runs {d : Decoded} {s t : State} (hi : isPrefixRow d.instr = false)
    (h : exec d.instr (fetchDecoded d s) = .next t) : Runs (tStates d.instr (fetchDecoded d s)) s t :=
  (Passes.fetchDecoded d s).runs (by rw [fetchDecoded_ctl]) (exec_runs hi h) (tStates_bounds _ _ hi).1 (by omega)

/-- An ignored index byte, fetched: a step of its own, or 4 T-states more for the instruction that follows (R468). -/
theorem execIndexPrefixIgnored_runs {xy : XY} {o : Byte} {s t : State}
    (h : execIndexPrefixIgnored xy o s = .next t) : ∃ n, 4 ≤ n ∧ n ≤ 25 ∧ Runs n s t := by
  unfold execIndexPrefixIgnored at h
  split at h
  · injection h with h
    subst h
    exact ⟨4, by decide, by decide,
      (Passes.of_ctl 4 (c := { s.ctl with prefixBlock := true }) rfl rfl id).zero_trans (.tick_setQ 4 0x00 _),
      .inl rfl, fun hs ht => absurd (hs.symm.trans ht) Bool.false_ne_true⟩
  · next ho =>
    have hi := isPrefixRow_decodeBytes ho
    have hmax := tStates_decodeBytes_le ho
    simp only [execDecoded_eq_exec _ _ (hi _ _ _)] at h
    exact ⟨_, Nat.le_add_right 4 _, Nat.add_le_add_left (hmax _ _ _ _) 4,
      (Passes.tick_setQ 4 0x00 s).runs rfl (exec_fetchDecoded_runs (hi _ _ _) h) (Nat.le_add_right 4 _) rfl⟩

theorem decodeAt_cases (s : State) :
    isPrefixRow (decodeAt s).instr = false ∨ ∃ xy o, (decodeAt s).instr = .indexPrefixIgnored xy o := by
  rcases decodeBytes_cases _ _ _ _ with hi | ⟨xy, -, hi⟩
  · exact .inl hi
  · exact .inr ⟨xy, _, hi⟩

/-- The instruction at PC with its fetches, an ignored index byte among them. -/
theorem exec_decodeAt_runs {s t : State} (h : exec (decodeAt s).instr (fetchDecoded (decodeAt s) s) = .next t) :
    ∃ n, 4 ≤ n ∧ n ≤ 25 ∧ Runs n s t := by
  rcases decodeAt_cases s with hi | ⟨xy, o, hi⟩
  · have hb := tStates_bounds (decodeAt s).instr (fetchDecoded (decodeAt s) s) hi
    exact ⟨_, hb.1, by omega, exec_fetchDecoded_runs hi h⟩
  · rw [hi] at h
    obtain ⟨n, h4, h25, hr⟩ := execIndexPrefixIgnored_runs (xy := xy) h
    exact ⟨n, h4, h25, (Passes.fetchDecoded (decodeAt s) s).runs (by rw [fetchDecoded_ctl]) hr h4 (by omega)⟩

/-! ### Halt cycles and acceptances -/

theorem Passes.refreshM1 (n : Nat) (s : State) : Passes 0 n s (refreshM1 s) :=
  ⟨rfl, rfl, rfl, rfl, rfl, rfl, rfl, id, fun _ _ hs => hs.congr rfl rfl rfl rfl rfl rfl⟩

theorem haltCycle_runs {s t : State} (h : haltCycle s = .next t) : Runs 4 s t := by
  injection h with h
  subst h
  exact ⟨(Passes.refreshM1 4 s).zero_trans (.tick_setQ 4 0x00 _), .inl rfl,
    fun hs ht => absurd (hs.symm.trans ht) Bool.false_ne_true⟩

/-- What every acceptance does (R506) loses no request that is still there. -/
theorem enterInterrupt_runs (entry : State → Word) (n : Nat) (s : State) : Runs n s (enterInterrupt entry n s) := by
  refine ⟨?_, .inl rfl, ?_⟩
  · exact (Passes.of_ctl n (c := { s.ctl with halted := false }) rfl rfl id).zero_trans <|
      (Passes.refreshM1 n _).zero_trans <| (Passes.push16 n _ _).zero_trans <|
      (Passes.withRegs n _ _).zero_trans <| .tick_setQ n 0x00 _
  · intro hs ht
    have he : (enterInterrupt entry n s).ctl.eiBlock = s.ctl.eiBlock := by simp [enterInterrupt]
    rw [he, hs] at ht
    cases ht

/-! ### What a step starts from -/

/-- What a step of `s` starts from: the one-boundary bits are cleared, and an acceptance has cleared its request, IFF1 or
both flip-flops, and P/V after `LD A,I` and `LD A,R` (R504, R507, R508, R512). -/
structure Sampled (s u : State) : Prop where
  same : u = { beginStep s with regs := { s.regs with f := u.regs.f }, ctl := u.ctl }
  iff : (s.ctl.iff1 = true → s.ctl.iff2 = true) → u.ctl.iff1 = true → u.ctl.iff2 = true
  eiBlock : u.ctl.eiBlock = false
  keepsInt : stepKind s ≠ .maskable → u.ctl.intReq = s.ctl.intReq
  clearsInt : stepKind s = .maskable → u.ctl.intReq = false
  keepsNmi : stepKind s ≠ .nmi → u.ctl.nmiPending = s.ctl.nmiPending

/-- A step that accepts nothing starts from `beginStep s`. -/
theorem sampled_beginStep {s : State} (h : stepKind s ≠ .maskable) : Sampled s (beginStep s) :=
  ⟨rfl, id, rfl, fun _ => rfl, fun h' => absurd h' h, fun _ => rfl⟩

/-- Where an NMI acceptance is entered: its request and IFF1 are cleared (R507). -/
def nmiStart (s : State) : State := { s with ctl := { s.ctl with nmiPending := false, iff1 := false } }

theorem acceptNmi_eq (s : State) : acceptNmi s = .next (enterInterrupt (fun _ => 0x0066) 11 (nmiStart s)) := rfl

theorem sampled_nmiStart {s : State} (hk : stepKind s = .nmi) : Sampled s (nmiStart (beginStep s)) where
  same := rfl
  iff := fun _ h => absurd h Bool.false_ne_true
  eiBlock := rfl
  keepsInt := fun _ => rfl
  clearsInt := fun h => nomatch hk.symm.trans h
  keepsNmi := fun h => absurd hk h

/-- Where a maskable acceptance is entered, but for the acknowledge event: the request latch and both flip-flops are
cleared (R508), and P/V after `LD A,I` and `LD A,R` (R512). -/
def maskableStart (la : Bool) (s : State) : State :=
  { s with
    regs := { s.regs with f := if la then s.regs.f &&& 0xFB else s.regs.f }
    ctl := { s.ctl with intReq := false, iff1 := false, iff2 := false } }

theorem acknowledge_eq (la : Bool) (s : State) :
    acknowledge la s =
      if s.cfg.hsyncSyncOnIntAck then boundaryAt s.clk.cycles (advanceTo s.clk.cycles (maskableStart la s))
      else maskableStart la s := by
  cases la <;> rfl

theorem sampled_maskableStart {s : State} (hk : stepKind s = .maskable) (la : Bool) :
    Sampled s (maskableStart la (beginStep s)) where
  same := rfl
  iff := fun _ h => absurd h Bool.false_ne_true
  eiBlock := rfl
  keepsInt := fun h => absurd hk h
  clearsInt := fun _ => rfl
  keepsNmi := fun _ => rfl

/-- The acknowledge event restarts the line timer where it is asked to (R520). -/
theorem acknowledge_passes (la : Bool) (n : Nat) (s : State) : Passes 0 n (maskableStart la s) (acknowledge la s) := by
  rw [acknowledge_eq]
  split
  · have hb := Passes.boundaryAt n (advanceTo s.clk.cycles (maskableStart la s))
    rw [advanceTo_clk] at hb
    exact (Passes.advanceTo (m := 0) (Nat.zero_le n)).zero_trans hb
  · exact .refl n _

theorem acknowledge_eiBlock (la : Bool) (s : State) : (acknowledge la s).ctl.eiBlock = s.ctl.eiBlock := by
  rw [acknowledge_eq]
  split
  · rw [boundaryAt_ctl, advanceTo_ctl]
    rfl
  · rfl

theorem acceptMaskable_runs {la : Bool} {s t : State} (h : acceptMaskable la s = .next t) :
    ∃ n, 4 ≤ n ∧ n ≤ 25 ∧ Runs n (maskableStart la s) t := by
  have hentry : ∀ entry n, Runs n (maskableStart la s) (enterInterrupt entry n (acknowledge la s)) := fun entry n =>
    (acknowledge_passes la n s).runs (acknowledge_eiBlock la s) (enterInterrupt_runs entry n _) le_rfl
      (Nat.zero_add n).symm
  simp only [acceptMaskable] at h
  split at h
  · split at h
    · injection h with h
      subst h
      exact ⟨13, by decide, by decide, hentry _ 13⟩
    · cases h
  · injection h with h
    subst h
    exact ⟨13, by decide, by decide, hentry _ 13⟩
  · injection h with h
    subst h
    exact ⟨19, by decide, by decide, hentry _ 19⟩

/-- What a step that answers a next state is (R504): from what it samples, 4 to 25 T-states, then its end. -/
theorem step_cases {s t : State} (h : step s = .next t) :
    ∃ u v n, Sampled s u ∧ 4 ≤ n ∧ n ≤ 25 ∧ Runs n u v ∧ t = finishStep v := by
  obtain ⟨v, hv, rfl⟩ := finishOutcome_next h
  cases hk : stepKind s <;> simp only [hk] at hv
  case nmi =>
    rw [acceptNmi_eq] at hv
    injection hv with hv
    subst hv
    exact ⟨_, _, 11, sampled_nmiStart hk, by decide, by decide, enterInterrupt_runs _ 11 _, rfl⟩
  case maskable =>
    obtain ⟨n, h4, h25, hr⟩ := acceptMaskable_runs hv
    exact ⟨_, v, n, sampled_maskableStart hk _, h4, h25, hr, rfl⟩
  case haltCycle =>
    exact ⟨_, v, 4, sampled_beginStep (by simp [hk]), by decide, by decide, haltCycle_runs hv, rfl⟩
  case instruction =>
    obtain ⟨n, h4, h25, hr⟩ := exec_decodeAt_runs hv
    exact ⟨_, v, n, sampled_beginStep (by simp [hk]), h4, h25, hr, rfl⟩

section
variable {s u : State} (hu : Sampled s u)
include hu

theorem Sampled.cycles : u.clk.cycles = s.clk.cycles := by rw [hu.same]; rfl
theorem Sampled.stepT : u.clk.stepT = 0 := by rw [hu.same]; rfl
theorem Sampled.ula : u.ula = s.ula := by rw [hu.same]; rfl
theorem Sampled.rom : u.rom = s.rom := by rw [hu.same]; rfl
theorem Sampled.cfg : u.cfg = s.cfg := by rw [hu.same]; rfl
theorem Sampled.frames : u.frameCounter = s.frameCounter := by rw [hu.same]; rfl

end

theorem Sampled.invAt {s u : State} (hu : Sampled s u) (hs : s.Inv) : u.InvAt s.clk.cycles := by
  obtain ⟨mem, cfg, line, started, held, iff⟩ := State.InvAt.beginStep hs
  rw [hu.same]
  exact ⟨mem, cfg, line, started, held, hu.iff iff⟩

/-! ### What the end of a step leaves -/

@[simp] theorem finishStep_keys (s : State) : (finishStep s).ula.keys = s.ula.keys := by simp [finishStep]

/-- The end of a step loses no NMI request (R58). -/
theorem finishStep_nmiPending {s : State} (h : s.ctl.nmiPending = true) : (finishStep s).ctl.nmiPending = true := by
  simp [finishStep, advanceBefore, boundaries_ctl, h]

end Sys2Proof.Machine
end

section
/-! The obligations about the state: the invariant, the fetch, requests, halt cycles, and what instructions and steps write. -/

namespace Sys2Proof.Machine

/-! ### The machine after construction and the four loads of I and R -/

/-- Settles O52: an empty memory reads its default everywhere, and the address map tells ROM from RAM by bit 14. -/
theorem constructionState : Obligations.ConstructionState := by
  intro cfg
  refine ⟨rfl, rfl, rfl, rfl, rfl, rfl, fun a => ?_, rfl⟩
  unfold memRead
  rw [place_eq]
  cases a.getLsbD 14 <;> rfl

/-- Settles O13: the flags of `LD A,I` and `LD A,R` are those of `ldAirF`. -/
theorem loadInterruptAndRefresh : Obligations.LoadInterruptAndRefresh := by
  intro s
  refine ⟨?_, rfl, rfl⟩
  rintro i v (⟨rfl, rfl⟩ | ⟨rfl, rfl⟩) <;>
    exact ⟨ldAirF _ s.regs.f s.ctl.iff2, rfl, by simp [ldAirF]⟩

/-! ### The fetch -/

theorem bumpR_bumpR (r : Byte) : bumpR (bumpR r) = (r &&& 0x80) ||| ((r + 2) &&& 0x7F) := by
  revert r
  decide

/-- Settles O5, by the one or two M1 cycles of the instruction at PC. -/
theorem fetchMovesPcAndR : Obligations.FetchMovesPcAndR := by
  intro s d t
  obtain ⟨hm1s, hlen⟩ : (d.m1s = 1 ∨ d.m1s = 2) ∧ d.m1s ≤ d.len := decodeBytes_m1s ..
  have hpc : BitVec.ofNat 16 d.len = BitVec.ofNat 16 d.m1s + BitVec.ofNat 16 (d.len - d.m1s) := by
    rw [← BitVec.ofNat_add, Nat.add_sub_cancel' hlen]
  have ht : t = fetchRest d (fetchM1 0 s) := rfl
  unfold fetchRest at ht
  rw [hpc, ← BitVec.add_assoc]
  rcases hm1s with h | h
  · rw [h, if_neg (by decide)] at ht
    simp [ht, h, bumpR]
  · rw [h, if_pos rfl] at ht
    simp [ht, h, bumpR_bumpR, BitVec.add_assoc]

/-! ### Requests -/

theorem stepKind_eq_nmi_iff (s : State) :
    stepKind s = .nmi ↔ s.ctl.nmiPending = true ∧ s.ctl.prefixBlock = false := by
  unfold stepKind
  grind

theorem stepKind_eq_maskable_iff (s : State) :
    stepKind s = .maskable ↔ s.ctl.nmiPending = false ∧ (s.ctl.intReq = true ∨ s.ctl.intLine = true) ∧
      s.ctl.iff1 = true ∧ s.ctl.eiBlock = false ∧ s.ctl.prefixBlock = false := by
  unfold stepKind maskableAsserted
  grind

theorem stepKind_eq_haltCycle_iff (s : State) :
    stepKind s = .haltCycle ↔ stepKind s ≠ .nmi ∧ stepKind s ≠ .maskable ∧ s.ctl.halted = true := by
  unfold stepKind
  grind

/-- Settles O45: the order of the tests in `stepKind`, and what a step samples and never loses. -/
theorem requestsAreSampledInOrder : Obligations.RequestsAreSampledInOrder := by
  intro s
  have hnmi := stepKind_eq_nmi_iff s
  have hmask := stepKind_eq_maskable_iff s
  refine ⟨by grind, by grind, by grind, by grind, ?_⟩
  intro t ht
  obtain ⟨u, v, n, hu, -, -, hv, rfl⟩ := step_cases ht
  rw [finishStep_intReq, hv.intReq]
  exact ⟨hu.keepsInt, hu.clearsInt, fun hk hn => finishStep_nmiPending (hv.nmi ((hu.keepsNmi hk).trans hn))⟩

/-! ### Halt cycles and the end of a program run -/

/-- A halt cycle, written out (R55). -/
theorem step_haltCycle {s : State} (hk : stepKind s = .haltCycle) :
    step s = .next (finishStep { s with
      regs := { s.regs with r := (s.regs.r &&& 0x80) ||| ((s.regs.r + 1) &&& 0x7F) }
      ctl := { s.ctl with halted := true, q := 0, eiBlock := false, prefixBlock := false, ldair := false }
      clk := { cycles := s.clk.cycles + 4, stepT := 4, stepM1 := 1, stepR := s.regs.r }
      busOut := none }) := by
  obtain ⟨-, -, hh⟩ := (stepKind_eq_haltCycle_iff s).1 hk
  unfold step
  simp only [hk, ← hh]
  rfl

theorem programEnded_iff (s : State) :
    programEnded s = true ↔
      s.ctl.halted = true ∧ (s.ctl.iff1 = false ∨ s.ctl.intReq = false ∧ s.cfg.intFromA6 = false) ∧
        s.ctl.nmiPending = false ∧ s.ula.nmiGenOn = false := by
  unfold programEnded
  grind

/-- A program-level end performs halt cycles only (R511, R608). -/
theorem stepKind_of_programEnded {s : State} (he : programEnded s = true)
    (hw : s.ctl.intLine = true → s.cfg.intFromA6 = true) : stepKind s = .haltCycle := by
  rw [stepKind_eq_haltCycle_iff, Ne, Ne, stepKind_eq_nmi_iff, stepKind_eq_maskable_iff]
  rw [programEnded_iff] at he
  grind

theorem programEnded_finishStep (s : State) (hoff : s.ula.nmiGenOn = false) :
    programEnded (finishStep s) = programEnded s := by
  simp only [programEnded, finishStep_halted, finishStep_iff1, finishStep_intReq, finishStep_cfg, finishStep_nmiGenOn,
    finishStep_nmiPending_of_off hoff]

/-- The run from `s` comes to its first program-level end within `n` steps, at `t` (R608, log 24). -/
def EndsWithin (n : Nat) (s t : State) : Prop :=
  ∃ k, k ≤ n ∧ stepsTo k s t ∧ programEnded t = true ∧ ∀ j u, j < k → stepsTo j s u → programEnded u = false

theorem endsWithin_of_ended {s : State} (he : programEnded s = true) (n : Nat) (t : State) :
    EndsWithin n s t ↔ s = t := by
  constructor
  · rintro ⟨_ | k, -, hst, -, hfirst⟩
    · exact hst
    · exact absurd (he.symm.trans (hfirst 0 s k.succ_pos rfl)) Bool.noConfusion
  · rintro rfl
    exact ⟨0, n.zero_le, rfl, he, fun j u hj => absurd hj j.not_lt_zero⟩

theorem not_endsWithin_zero {s : State} (he : programEnded s = false) (t : State) : ¬EndsWithin 0 s t := by
  rintro ⟨k, hk, hst, ht, -⟩
  obtain rfl := Nat.le_zero.1 hk
  obtain rfl : s = t := hst
  exact Bool.noConfusion (he.symm.trans ht)

theorem endsWithin_succ {s : State} (he : programEnded s = false) (n : Nat) (t : State) :
    EndsWithin (n + 1) s t ↔ ∃ u, step s = .next u ∧ EndsWithin n u t := by
  constructor
  · rintro ⟨_ | k, hk, hst, ht, hfirst⟩
    · obtain rfl : s = t := hst
      exact Bool.noConfusion (he.symm.trans ht)
    · obtain ⟨u, hu, hst⟩ := hst
      exact ⟨u, hu, k, Nat.le_of_succ_le_succ hk, hst, ht, fun j v hj hv =>
        hfirst (j + 1) v (Nat.succ_lt_succ hj) ⟨u, hu, hv⟩⟩
  · rintro ⟨u, hu, k, hk, hst, ht, hfirst⟩
    refine ⟨k + 1, Nat.succ_le_succ hk, ⟨u, hu, hst⟩, ht, ?_⟩
    rintro (_ | j) v hj hv
    · obtain rfl : s = v := hv
      exact he
    · obtain ⟨u', hu', hv⟩ := hv
      obtain rfl : u = u' := Host.Outcome.next.inj (hu.symm.trans hu')
      exact hfirst j v (Nat.lt_of_succ_lt_succ hj) hv

/-- A program run of at most `n` steps ends at the first program-level end within them. -/
theorem runProgram_eq_ended_iff (n : Nat) (s t : State) : runProgram n s = .ended t ↔ EndsWithin n s t := by
  induction n generalizing s with
  | zero =>
    cases he : programEnded s
    · simp [runProgram_zero_of_not_ended he, not_endsWithin_zero he]
    · simp [runProgram_of_ended he, endsWithin_of_ended he]
  | succ n ih =>
    cases he : programEnded s
    · rw [endsWithin_succ he]
      cases hs : step s with
      | next u => simp [runProgram_succ_of_next he hs, ih]
      | fault r => nomatch r
      | refused r => simp [runProgram_succ_of_refused he hs]
    · simp [runProgram_of_ended he, endsWithin_of_ended he]

/-- Settles O46, by induction on the number of steps for the last part. -/
theorem haltCycles : Obligations.HaltCycles := by
  refine ⟨fun s => step_haltCycle, programEnded_iff, ?_, runProgram_eq_ended_iff⟩
  intro s he hw
  have hk := stepKind_of_programEnded he hw
  obtain ⟨-, hint, hnmi, hoff⟩ := (programEnded_iff s).1 he
  refine ⟨hk, _, step_haltCycle hk, ?_, finishStep_wired⟩
  rw [programEnded_finishStep _ (by exact hoff), programEnded_iff]
  exact ⟨rfl, hint, hnmi, hoff⟩

/-! ### Whole-machine rules -/

/-- Settles O55: what `Completes` says of Q and F. -/
theorem flagWriters : Obligations.FlagWriters := by
  intro i s t hi h
  obtain ⟨u, -, hw, e⟩ := h ▸ exec_completes s i hi
  injection e with e
  subst e
  exact ⟨rfl, hw.f⟩

/-- Settles O56: what `Completes` says of the special registers, and that no body loses a request. -/
theorem specialRegisterWriters : Obligations.SpecialRegisterWriters := by
  intro i s t hi h
  obtain ⟨u, hp, hw, e⟩ := h ▸ exec_completes s i hi
  injection e with e
  subst e
  have hei : i ≠ .ei → u.ctl.eiBlock = s.ctl.eiBlock := fun hne => hw.eiBlock.resolve_right fun h => hne h.1
  exact ⟨hw.regI, hw.regR, hw.iff2, hw.iff1, hw.im, hw.halted, hei, hw.ldair, hw.prefixBlock, hp.intReq, hw.afAlt,
    hw.alts⟩

/-- Settles O58: the frame of `Passes`, from the accounting that starts at 0. -/
theorem stepFrameAndClock : Obligations.StepFrameAndClock := by
  intro s t h
  obtain ⟨u, v, n, hu, h4, h25, hv, rfl⟩ := step_cases h
  have hcycles : v.clk.cycles = s.clk.cycles + n := by rw [hv.cycles, hu.cycles]
  have hstepT : v.clk.stepT = n := by rw [hv.stepT, hu.stepT, Nat.zero_add]
  rw [finishStep_rom, finishStep_cfg, finishStep_keys, finishStep_frameCounter, finishStep_clk, hcycles, hstepT]
  exact ⟨hv.rom.trans hu.rom, hv.cfg.trans hu.cfg, hv.keys.trans (by rw [hu.ula]), hv.frames.trans hu.frames, rfl, h4,
    h25⟩

/-- Settles O59: the invariant at the start of the step, kept at every moment of it, and made whole by its end. -/
theorem stepKeepsInvariant : Obligations.StepKeepsInvariant := by
  intro s t hs h
  obtain ⟨u, v, n, hu, -, -, hv, rfl⟩ := step_cases h
  have hstart : u.InvAt v.clk.cycles := (hu.invAt hs).mono (by rw [hv.cycles, hu.cycles]; omega)
  exact (hv.inv _ hv.cycles.ge hstart).finishStep hv.q (hv.eiBlock hu.eiBlock)

end Sys2Proof.Machine
end

section
/-! What the CPU reads and stores: the address map, one byte, a word, and the two bytes of a push. -/

namespace Sys2Proof.Machine

/-! ### The address map (R82) -/

theorem RamSize.exists_bytes_eq_two_pow (size : RamSize) : ∃ k, size.bytes = 2 ^ k := by
  cases size
  case k1 => exact ⟨10, rfl⟩
  case k2 => exact ⟨11, rfl⟩
  case k4 => exact ⟨12, rfl⟩
  case k8 => exact ⟨13, rfl⟩
  case k16 => exact ⟨14, rfl⟩

/-- Masking with `RAM_SIZE - 1` is the remainder by `RAM_SIZE`. -/
theorem and_ramSize_sub_one (n : Nat) (size : RamSize) : n &&& (size.bytes - 1) = n % size.bytes := by
  obtain ⟨k, hk⟩ := RamSize.exists_bytes_eq_two_pow size
  rw [hk, Nat.and_two_pow_sub_one_eq_mod]

theorem and_romSize_sub_one (n : Nat) : n &&& (Config.romSize - 1) = n % Config.romSize :=
  Nat.and_two_pow_sub_one_eq_mod n 13

/-- The low 15 bits of an address. -/
theorem toNat_and_0x7FFF (a : Word) : (a &&& 0x7FFF).toNat = a.toNat % 0x8000 := by
  rw [BitVec.toNat_and]
  exact Nat.and_two_pow_sub_one_eq_mod a.toNat 15

theorem xor_0x8000_and_0x7FFF (a : Word) : (a ^^^ 0x8000) &&& 0x7FFF = a &&& 0x7FFF := by
  apply BitVec.eq_of_toNat_eq
  rw [BitVec.toNat_and, BitVec.toNat_and, BitVec.toNat_xor, Nat.and_xor_distrib_right]
  exact Nat.xor_zero _

/-- The map of R82 in the words of the rule. -/
theorem place_eq_masked (cfg : Config) (a : Word) :
    place cfg a =
      if (a &&& 0x7FFF).toNat < 0x4000 then .rom ((a &&& 0x7FFF).toNat &&& (Config.romSize - 1))
      else .ram (((a &&& 0x7FFF).toNat - 0x4000) &&& (cfg.ramSize.bytes - 1)) := by
  rw [and_romSize_sub_one, and_ramSize_sub_one, toNat_and_0x7FFF, place]

/-- Settles O6: the masks are remainders, and the low 15 bits do not see A15. -/
theorem addressMap : Obligations.AddressMap := by
  refine ⟨place_eq_masked, fun s a => ?_⟩
  have hplace : place s.cfg (a ^^^ 0x8000) = place s.cfg a := by
    rw [place_eq_masked, place_eq_masked, xor_0x8000_and_0x7FFF]
  rw [memRead, memRead, hplace]

/-! ### One byte (R84, R85) -/

theorem memRead_of_ram {s : State} {a : Word} (ha : a.getLsbD 14 = true) :
    memRead s a = Memory.read s.cfg.ramPowerOnFill s.ram (a.toNat % s.cfg.ramSize.bytes) := by
  rw [memRead, place_eq, if_pos ha]

theorem memRead_of_rom {s : State} {a : Word} (ha : a.getLsbD 14 = false) :
    memRead s a = Memory.read romDefault s.rom (a.toNat % Config.romSize) := by
  rw [memRead, place_eq, if_neg (ne_true_of_eq_false ha)]

theorem memWrite_of_ram {s : State} {addr : Word} (h : addr.getLsbD 14 = true) (v : Byte) :
    memWrite s addr v =
      { s with ram := Memory.write s.cfg.ramPowerOnFill s.ram (addr.toNat % s.cfg.ramSize.bytes) v } := by
  rw [memWrite, place_eq, if_pos h]

theorem memWrite_of_rom {s : State} {addr : Word} (h : addr.getLsbD 14 = false) (v : Byte) : memWrite s addr v = s := by
  rw [memWrite, place_eq, if_neg (ne_true_of_eq_false h)]

theorem hitsCell_of_ram {cfg : Config} {addr a : Word} (h : addr.getLsbD 14 = true) (ha : a.getLsbD 14 = true) :
    hitsCell cfg addr a = (a.toNat % cfg.ramSize.bytes == addr.toNat % cfg.ramSize.bytes) := by
  rw [hitsCell, h, ha, Bool.and_self, Bool.true_and]

theorem hitsCell_of_rom_left {cfg : Config} {addr : Word} (h : addr.getLsbD 14 = false) (a : Word) :
    hitsCell cfg addr a = false := by
  rw [hitsCell, h, Bool.false_and, Bool.false_and]

theorem hitsCell_of_rom_right {cfg : Config} {a : Word} (ha : a.getLsbD 14 = false) (addr : Word) :
    hitsCell cfg addr a = false := by
  rw [hitsCell, ha, Bool.and_false, Bool.false_and]

/-- What any address reads after a CPU write: the new byte at the mirrors of the cell, the old byte elsewhere. -/
theorem memRead_memWrite {s : State} (hs : s.memWf) (addr a : Word) (v : Byte) :
    memRead (memWrite s addr v) a = if hitsCell s.cfg addr a then v else memRead s a := by
  cases h : addr.getLsbD 14
  · rw [memWrite_of_rom h, hitsCell_of_rom_left h]
    rfl
  cases ha : a.getLsbD 14
  · rw [hitsCell_of_rom_right ha, memRead_of_rom ha, memRead_of_rom ha, memWrite_rom]
    rfl
  · obtain ⟨-, ⟨hrising, -⟩, -⟩ := hs
    rw [hitsCell_of_ram h ha, memRead_of_ram ha, memRead_of_ram ha, memWrite_of_ram h]
    simp only [Memory.read_write hrising, beq_iff_eq]

/-- Settles O7: the RAM side of the map, and reading after a write. -/
theorem storeThenRead : Obligations.StoreThenRead :=
  ⟨fun _ _ => memRead_of_ram, fun _ addr a v hs => memRead_memWrite hs addr a v⟩

/-- Settles O8: the ROM side of the map; `LD (HL),r` is the dropped write and then the end of the instruction. -/
theorem romStoresAreDropped : Obligations.RomStoresAreDropped := by
  refine ⟨fun s a ha => ⟨memRead_of_rom ha, memWrite_of_rom ha⟩, fun s r hhl => ?_⟩
  have hexec : exec (.ldMemHlR r) s = endPlain 7 (memWrite s s.regs.hl (getR8 r s.regs)) := rfl
  rw [hexec, memWrite_of_rom hhl, endPlain_eq]

/-! ### Which stores meet -/

theorem hitsCell_self (cfg : Config) (a : Word) : hitsCell cfg a a = a.getLsbD 14 := by
  rw [hitsCell, beq_self_eq_true, Bool.and_self, Bool.and_true]

theorem hitsCell_comm (cfg : Config) (addr a : Word) : hitsCell cfg addr a = hitsCell cfg a addr := by
  rw [hitsCell, hitsCell, Bool.and_comm (addr.getLsbD 14), BEq.comm]

/-- Neighbouring addresses are never mirrors of one RAM byte, not even across the wrap at 0xFFFF. -/
theorem hitsCell_add_one (cfg : Config) (a : Word) : hitsCell cfg a (a + 1) = false := by
  have hadd : (a + 1).toNat = (a.toNat + 1) % 0x10000 := BitVec.toNat_add a 1
  have hne : (a + 1).toNat % cfg.ramSize.bytes ≠ a.toNat % cfg.ramSize.bytes := by
    rw [hadd]
    cases cfg.ramSize <;> simp only [RamSize.bytes] <;> omega
  rw [hitsCell, beq_false_of_ne hne, Bool.and_false]

/-! ### Stores one after the other -/

theorem StoresTo.refl (s : State) : StoresTo s s [] := ⟨rfl, fun _ => rfl⟩

theorem StoresTo.regs {s t : State} {l : List (Word × Byte)} (h : StoresTo s t l) : t.regs = s.regs := by
  rw [h.1]

/-- One more store in front of the list. -/
theorem StoresTo.memWrite {s t : State} {l : List (Word × Byte)} (h : StoresTo s t l) (ht : t.memWf) (addr : Word)
    (v : Byte) : StoresTo s (memWrite t addr v) ((addr, v) :: l) := by
  obtain ⟨hframe, hread⟩ := h
  refine ⟨?_, fun a => ?_⟩
  · rw [memWrite_eq, hframe]
  · rw [memRead_memWrite ht, hread, hframe]
    rfl

/-- Two stores, the second at `addr'`. -/
theorem storesTo_memWrite_memWrite {s : State} (hs : s.memWf) (addr addr' : Word) (v v' : Byte) :
    StoresTo s (memWrite (memWrite s addr v) addr' v') [(addr', v'), (addr, v)] :=
  ((StoresTo.refl s).memWrite hs addr v).memWrite (memWf_memWrite hs addr v) addr' v'

/-! ### Words (R88, R89) -/

theorem storesTo_memWrite16 {s : State} (hs : s.memWf) (addr v : Word) :
    StoresTo s (memWrite16 s addr v) (wordStores addr v) :=
  storesTo_memWrite_memWrite hs addr (addr + 1) (loByte v) (hiByte v)

theorem joinBytes_eq_or_shift (hi lo : Byte) : joinBytes hi lo = lo.setWidth 16 ||| (hi.setWidth 16 <<< 8) := by
  rw [joinBytes, BitVec.append_def, BitVec.or_comm, BitVec.shiftLeftZeroExtend_eq, BitVec.setWidth'_eq]

/-- A word stored in RAM is read back: its two bytes do not meet. -/
theorem StoresTo.memRead16_wordStores {s t : State} {addr v : Word} (h : StoresTo s t (wordStores addr v))
    (hlo : addr.getLsbD 14 = true) (hhi : (addr + 1).getLsbD 14 = true) : memRead16 t addr = v := by
  have hmiss : hitsCell s.cfg (addr + 1) addr = false := by rw [hitsCell_comm, hitsCell_add_one]
  obtain ⟨-, hread⟩ := h
  rw [memRead16, hread, hread]
  simp only [wordStores, readAfter, hmiss, hitsCell_self, hlo, hhi, if_true, Bool.false_eq_true, if_false,
    joinBytes_hi_lo]

/-- Settles O9: the byte order of `joinBytes`, and that the two bytes of a word do not meet. -/
theorem wordsAreLittleEndian : Obligations.WordsAreLittleEndian :=
  ⟨fun _ _ => joinBytes_eq_or_shift _ _, fun _ _ _ => rfl,
    fun _ a v hs => (storesTo_memWrite16 hs a v).memRead16_wordStores⟩

/-! ### The two bytes of a push (R90) -/

/-- The state with the two bytes of `Push16(v)` stored and SP not yet moved. -/
def pushBytes (v : Word) (s : State) : State :=
  memWrite (memWrite s (s.regs.sp - 1) (hiByte v)) (s.regs.sp - 2) (loByte v)

theorem push16_eq_pushBytes (v : Word) (s : State) :
    push16 v s = (pushBytes v s).withRegs { s.regs with sp := s.regs.sp - 2 } := by
  simp only [push16, pushBytes, memWrite_regs]

theorem storesTo_pushBytes {s : State} (hs : s.memWf) (v : Word) :
    StoresTo s (pushBytes v s) (pushStores s.regs.sp v) :=
  storesTo_memWrite_memWrite hs (s.regs.sp - 1) (s.regs.sp - 2) (hiByte v) (loByte v)

theorem sub_two_add_one (sp : Word) : sp - 2 + 1 = sp - 1 := by bv_omega

/-- A word pushed in RAM is read back from the new top of the stack. -/
theorem StoresTo.memRead16_pushStores {s t : State} {sp v : Word} (h : StoresTo s t (pushStores sp v))
    (hhi : (sp - 1).getLsbD 14 = true) (hlo : (sp - 2).getLsbD 14 = true) : memRead16 t (sp - 2) = v := by
  have hmiss : hitsCell s.cfg (sp - 2) (sp - 1) = false := by rw [← sub_two_add_one, hitsCell_add_one]
  obtain ⟨-, hread⟩ := h
  rw [memRead16, sub_two_add_one, hread, hread]
  simp only [pushStores, readAfter, hmiss, hitsCell_self, hlo, hhi, if_true, Bool.false_eq_true, if_false,
    joinBytes_hi_lo]

end Sys2Proof.Machine
end

section
/-! The obligations about 16-bit stores, the stack, calls, and input and output: each instruction written out once as what
it stores or asks of the bus and the registers it leaves. -/

namespace Sys2Proof.Machine

/-! ### The end of an instruction whose stores or bus accesses left the registers as they were -/

theorem endPlain_withRegs_of_regs {s u : State} (h : u.regs = s.regs) (n : Nat) (f : Regs → Regs) :
    endPlain n (u.withRegs (f u.regs)) = .next (afterQuiet n (f s.regs) u) := by
  rw [h]
  rfl

theorem endFlags_withRegs_of_regs {s u : State} (h : u.regs = s.regs) (n : Nat) (f : Regs → Regs) :
    endFlags n (u.withRegs (f u.regs)) = .next (afterFlags n (f s.regs) u) := by
  rw [h]
  rfl

theorem endPlain_setWZ_of_regs {s u : State} (h : u.regs = s.regs) (n : Nat) (wz : Word) :
    endPlain n (setWZ wz u) = .next (afterQuiet n { s.regs with wz := wz } u) :=
  endPlain_withRegs_of_regs h n ({ · with wz := wz })

/-! ### 16-bit stores (R235 to R237) -/

/-- An instruction that stores a word and latches WZ. -/
theorem storesWord_of_exec {i : Instr} {s : State} (hs : s.memWf) {n : Nat} {wz addr v : Word}
    (h : exec i s = endPlain n (setWZ wz (memWrite16 s addr v))) :
    ∃ u, StoresTo s u (wordStores addr v) ∧ exec i s = .next (afterQuiet n { s.regs with wz := wz } u) := by
  have hstores := storesTo_memWrite16 hs addr v
  exact ⟨_, hstores, h.trans (endPlain_setWZ_of_regs hstores.regs n wz)⟩

/-- Settles O15: each form is the word store of its operand. -/
theorem storeToMemory16 : Obligations.StoreToMemory16 := fun _ hs _ =>
  ⟨storesWord_of_exec hs rfl, fun _ => storesWord_of_exec hs rfl, fun _ => storesWord_of_exec hs rfl⟩

/-! ### The stack (R90, R240 to R243, R397 to R399, R403) -/

theorem endPlain_push16 (n : Nat) (v : Word) (s : State) :
    endPlain n (push16 v s) = .next (afterQuiet n { s.regs with sp := s.regs.sp - 2 } (pushBytes v s)) := by
  rw [push16_eq_pushBytes]
  rfl

theorem endPlain_jumpLatched_push16 (n : Nat) (target v : Word) (s : State) :
    endPlain n (jumpLatched target (push16 v s)) =
      .next (afterQuiet n { s.regs with sp := s.regs.sp - 2, pc := target, wz := target } (pushBytes v s)) := by
  rw [push16_eq_pushBytes]
  rfl

theorem exec_pushQq (qq : RP2) (s : State) :
    exec (.pushQq qq) s =
      .next (afterQuiet 11 { s.regs with sp := s.regs.sp - 2 } (pushBytes (getRP2 qq s.regs) s)) :=
  endPlain_push16 ..

theorem exec_pushXy (xy : XY) (s : State) :
    exec (.pushXy xy) s =
      .next (afterQuiet 15 { s.regs with sp := s.regs.sp - 2 } (pushBytes (getXY xy s.regs) s)) :=
  endPlain_push16 ..

theorem exec_callNn (nn : Word) (s : State) :
    exec (.callNn nn) s =
      .next (afterQuiet 17 { s.regs with sp := s.regs.sp - 2, pc := nn, wz := nn } (pushBytes s.regs.pc s)) :=
  endPlain_jumpLatched_push16 ..

theorem exec_callCcNn_of_taken {cc : Cond} {s : State} (h : condHolds cc s.regs.f = true) (nn : Word) :
    exec (.callCcNn cc nn) s =
      .next (afterQuiet 17 { s.regs with sp := s.regs.sp - 2, pc := nn, wz := nn } (pushBytes s.regs.pc s)) :=
  (if_pos h).trans (endPlain_jumpLatched_push16 ..)

theorem exec_callCcNn_of_not_taken {cc : Cond} {s : State} (h : condHolds cc s.regs.f = false) (nn : Word) :
    exec (.callCcNn cc nn) s = .next (afterQuiet 10 { s.regs with wz := nn } s) :=
  if_neg (ne_true_of_eq_false h)

theorem exec_rst (p : Fin 8) (s : State) :
    exec (.rst p) s =
      .next (afterQuiet 11
        { s.regs with sp := s.regs.sp - 2, pc := BitVec.ofNat 16 (8 * p.val), wz := BitVec.ofNat 16 (8 * p.val) }
        (pushBytes s.regs.pc s)) :=
  endPlain_jumpLatched_push16 ..

theorem exec_ret (s : State) :
    exec .ret s =
      .next (afterQuiet 10 { s.regs with sp := s.regs.sp + 2, pc := popValue s, wz := popValue s } s) := rfl

/-- A popped pair does not contain SP, so it does not matter which of the two is written first. -/
theorem setRP2_popSP (qq : RP2) (v : Word) (g : Regs) :
    setRP2 qq v (popSP g) = { setRP2 qq v g with sp := g.sp + 2 } := by
  cases qq <;> rfl

theorem setXY_popSP (xy : XY) (v : Word) (g : Regs) : setXY xy v (popSP g) = { setXY xy v g with sp := g.sp + 2 } := by
  cases xy <;> rfl

theorem exec_popQq (qq : RP2) (s : State) :
    exec (.popQq qq) s = .next (afterQuiet 10 { setRP2 qq (popValue s) s.regs with sp := s.regs.sp + 2 } s) := by
  rw [← setRP2_popSP]
  rfl

theorem exec_popXy (xy : XY) (s : State) :
    exec (.popXy xy) s = .next (afterQuiet 14 { setXY xy (popValue s) s.regs with sp := s.regs.sp + 2 } s) := by
  rw [← setXY_popSP]
  rfl

/-- Settles O16: pushes store the bytes of `pushBytes`, pops take `popValue`. -/
theorem pushAndPop : Obligations.PushAndPop := fun s =>
  ⟨fun hs qq => ⟨_, storesTo_pushBytes hs _, exec_pushQq qq s⟩,
    fun hs xy => ⟨_, storesTo_pushBytes hs _, exec_pushXy xy s⟩,
    fun qq => exec_popQq qq s, fun xy => exec_popXy xy s⟩

/-- Settles O31: a taken call and a restart store the return address as a push does. -/
theorem callsAndRestarts : Obligations.CallsAndRestarts := fun s hs =>
  have hstores := storesTo_pushBytes hs s.regs.pc
  ⟨fun nn => ⟨_, hstores, exec_callNn nn s⟩,
    fun _ nn => ⟨fun h => ⟨_, hstores, exec_callCcNn_of_taken h nn⟩, fun h => exec_callCcNn_of_not_taken h nn⟩,
    fun p => ⟨_, hstores, exec_rst p s⟩⟩

/-- After an instruction that pushed `v` in RAM, `Pop16()` gives `v`. -/
theorem popValue_after_pushBytes {s : State} (hs : s.memWf) (hhi : (s.regs.sp - 1).getLsbD 14 = true)
    (hlo : (s.regs.sp - 2).getLsbD 14 = true) (n : Nat) {g : Regs} (hg : g.sp = s.regs.sp - 2) (v : Word) :
    popValue (afterQuiet n g (pushBytes v s)) = v := by
  have hread : popValue (afterQuiet n g (pushBytes v s)) = memRead16 (pushBytes v s) g.sp := rfl
  rw [hread, hg]
  exact (storesTo_pushBytes hs v).memRead16_pushStores hhi hlo

theorem getRP2_withSP (qq : RP2) (g : Regs) (sp : Word) : getRP2 qq { g with sp := sp } = getRP2 qq g := by
  cases qq <;> rfl

/-- Settles O17: what is popped is what was pushed, and SP goes down and up by 2. -/
theorem stackRoundTrips : Obligations.StackRoundTrips := by
  intro s hs hhi hlo
  have hpop := fun n g hg => popValue_after_pushBytes hs hhi hlo n (g := g) hg
  have hsp : s.regs.sp - 2 + 2 = s.regs.sp := BitVec.sub_add_cancel ..
  refine ⟨fun q1 q2 => ⟨_, _, exec_pushQq q1 s, exec_popQq q2 _, ?_, hsp⟩,
    fun nn => ⟨_, _, exec_callNn nn s, rfl, exec_ret _, hpop _ _ rfl _, hsp⟩⟩
  calc getRP2 q2 _ = popValue _ := (getRP2_withSP ..).trans (getRP2_setRP2 ..)
    _ = getRP2 q1 s.regs := hpop _ _ rfl _

/-! ### Input and output (R431 to R433, R438 to R440) -/

theorem parity_eq_evenParity (v : Byte) : parity v = evenParity v := by
  revert v
  decide

theorem inF_eq_readFlags (v f : Byte) : inF v f = readFlags v f := by
  rw [inF, szpF, readFlags, parity_eq_evenParity]

/-- Settles O34: each form is one bus read, which leaves the registers, and then the end of the instruction. -/
theorem inputInstructions : Obligations.InputInstructions := by
  intro s
  refine ⟨fun n => ?_, fun r8 => ?_, ?_⟩
  · exact endPlain_withRegs_of_regs (ioRead_regs ..) 11 ({ · with a := _, wz := _ })
  · rw [← inF_eq_readFlags]
    exact endFlags_withRegs_of_regs (ioRead_regs ..) 12 ({ setR8 r8 _ · with f := _, wz := _ })
  · rw [← inF_eq_readFlags]
    exact endFlags_withRegs_of_regs (ioRead_regs ..) 12 ({ · with f := _, wz := _ })

/-- Settles O35: each form is one bus write, which leaves the registers, and then WZ. -/
theorem outputInstructions : Obligations.OutputInstructions := fun _ =>
  ⟨fun _ => endPlain_setWZ_of_regs (ioWrite_regs ..) 11 _, fun _ => endPlain_setWZ_of_regs (ioWrite_regs ..) 12 _,
    endPlain_setWZ_of_regs (ioWrite_regs ..) 12 _⟩

end Sys2Proof.Machine
end

section
/-! The obligations about the encoding: what a list of bytes decodes to, by the five formats of R137. -/

namespace Sys2Proof.Machine

/-! ### The five formats of R137 -/

theorem decodeBytes_cb (b1 b2 b3 : Byte) : decodeBytes 0xCB b1 b2 b3 = ⟨decodeCB b1, 2, 2⟩ := rfl

theorem decodeBytes_ed (b1 b2 b3 : Byte) :
    decodeBytes 0xED b1 b2 b3 = ⟨(decodeED b1 b2 b3).1, 2 + (decodeED b1 b2 b3).2, 2⟩ := rfl

theorem decodeBytes_xycb (xy : XY) (d op : Byte) :
    decodeBytes xy.prefixByte 0xCB d op = ⟨decodeXYCB xy d op, 4, 2⟩ := by
  cases xy <;> rfl

theorem decodeBytes_xy (xy : XY) {op : Byte} (hop : op ≠ 0xCB) (b1 b2 : Byte) :
    decodeBytes xy.prefixByte op b1 b2 =
      (decodeXY xy op b1 b2).elim ⟨.indexPrefixIgnored xy op, 1, 1⟩ fun r => ⟨r.1, 2 + r.2, 2⟩ := by
  have hxy : xyOf xy.prefixByte = some xy ∧ xy.prefixByte ≠ 0xCB ∧ xy.prefixByte ≠ 0xED := by
    cases xy <;> decide
  obtain ⟨hof, hcb, hed⟩ := hxy
  simp only [decodeBytes, if_neg hcb, if_neg hed, hof, if_neg hop]
  cases decodeXY xy op b1 b2 <;> rfl

theorem decodeBytes_base {op : Byte} (hop : isPrefixByte op = false) (b1 b2 b3 : Byte) :
    decodeBytes op b1 b2 b3 = ⟨(decodeBase op b1 b2).1, 1 + (decodeBase op b1 b2).2, 1⟩ := by
  simp only [isPrefixByte, Bool.or_eq_false_iff, beq_eq_false_iff_ne] at hop
  obtain ⟨⟨⟨hcb, hed⟩, hdd⟩, hfd⟩ := hop
  rw [decodeBytes, if_neg hcb, if_neg hed, xyOf, if_neg hdd, if_neg hfd]

/-- The first byte settles the format. -/
theorem firstByte_cases (b0 : Byte) :
    b0 = 0xCB ∨ b0 = 0xED ∨ (∃ xy : XY, b0 = xy.prefixByte) ∨ isPrefixByte b0 = false := by
  by_cases hdd : b0 = 0xDD
  · exact .inr (.inr (.inl ⟨.ix, hdd⟩))
  by_cases hfd : b0 = 0xFD
  · exact .inr (.inr (.inl ⟨.iy, hfd⟩))
  · simp only [isPrefixByte, Bool.or_eq_false_iff, beq_eq_false_iff_ne]
    tauto

/-! ### An opcode byte and its operand bytes

What a byte of a space decodes to is settled by the byte alone; the operand bytes are only copied. So a fact about a
space is a finite check over its 256 bytes, with zeros for operands. -/

theorem wordBytes_operandWord (lo hi : Byte) : wordBytes (operandWord lo hi) = [lo, hi] := by
  simp [wordBytes, operandWord]

theorem operandWord_wordBytes (nn : Word) : operandWord (loByte nn) (hiByte nn) = nn := joinBytes_hi_lo nn

/-- `r`, read before the operand bytes `b1` and `b2`, is the same row of the opcode table as `r0`, whose encoding begins
with `k` bytes of its own; a row without operand bytes is the same instruction. -/
structure SameRow (k : Nat) (b1 b2 : Byte) (r0 r : Instr × Nat) : Prop where
  wellFormed : r.1.wellFormed = r0.1.wellFormed
  count : r.2 = r0.2
  bytes : encode r.1 = (encode r0.1).take k ++ [b1, b2].take r.2
  plain : r0.2 = 0 → r = r0

/-- A row with a 16-bit operand. -/
theorem SameRow.word {k : Nat} {b1 b2 : Byte} {i0 i : Instr} (hwf : i.wellFormed = i0.wellFormed)
    (h : encode i = (encode i0).take k ++ wordBytes (operandWord b1 b2)) :
    SameRow k b1 b2 (i0, 2) (i, 2) :=
  ⟨hwf, rfl, by rw [h, wordBytes_operandWord]; rfl, nofun⟩

theorem sameRow_decodeBase (op b1 b2 : Byte) : SameRow 1 b1 b2 (decodeBase op 0 0) (decodeBase op b1 b2) := by
  unfold decodeBase decodeAlu decodeAluN
  simp only []
  repeat' (first
    | split
    | exact .word rfl rfl
    | exact ⟨rfl, rfl, rfl, fun _ => rfl⟩
    | exact ⟨rfl, rfl, rfl, nofun⟩)

theorem sameRow_decodeED (op b1 b2 : Byte) : SameRow 2 b1 b2 (decodeED op 0 0) (decodeED op b1 b2) := by
  unfold decodeED decodeBlock
  simp only []
  repeat' (first | split | exact .word rfl rfl | exact ⟨rfl, rfl, rfl, fun _ => rfl⟩)

theorem sameRow_decodeXY (xy : XY) (op b1 b2 : Byte) :
    Option.Rel (SameRow 2 b1 b2) (decodeXY xy op 0 0) (decodeXY xy op b1 b2) := by
  unfold decodeXY decodeLdXY decodeAluXY
  simp only []
  repeat' (first
    | split
    | exact .none
    | exact .some (.word rfl rfl)
    | exact .some ⟨rfl, rfl, rfl, fun _ => rfl⟩
    | exact .some ⟨rfl, rfl, rfl, nofun⟩)

/-- The index register and the displacement of the XYCB format are copied likewise. -/
theorem encode_decodeXYCB_zero (xy : XY) (d op : Byte) :
    (decodeXYCB xy d op).wellFormed = (decodeXYCB .ix 0 op).wellFormed ∧
      encode (decodeXYCB xy d op) = [xy.prefixByte, 0xCB, d] ++ (encode (decodeXYCB .ix 0 op)).drop 3 := by
  unfold decodeXYCB
  simp only []
  repeat' (first | split | exact ⟨rfl, rfl⟩)

/-! ### Encoding what was decoded (R138) -/

/-- The instruction `r`, read after the bytes `lead` and before `b1` and `b2`, is a well-formed one whose encoding is
those bytes, `r.2` operand bytes among them. -/
structure EncodesBack (lead : List Byte) (b1 b2 : Byte) (r : Instr × Nat) : Prop where
  wellFormed : r.1.wellFormed = true
  count : r.2 ≤ 2
  bytes : encode r.1 = lead ++ [b1, b2].take r.2

/-- From a row with zeros for operands to the row with the operands. -/
theorem SameRow.encodesBack {k : Nat} {b1 b2 : Byte} {lead : List Byte} {r0 r : Instr × Nat}
    (h : SameRow k b1 b2 r0 r)
    (h0 : r0.1.wellFormed = true ∧ r0.2 ≤ 2 ∧ (encode r0.1).take k = lead) : EncodesBack lead b1 b2 r := by
  obtain ⟨hwf, hcount, hlead⟩ := h0
  exact ⟨h.wellFormed.trans hwf, h.count.trans_le hcount, by rw [h.bytes, hlead]⟩

theorem encodesBack_decodeBase (op b1 b2 : Byte) : EncodesBack [op] b1 b2 (decodeBase op b1 b2) := by
  have htable : ∀ op, (decodeBase op 0 0).1.wellFormed = true ∧ (decodeBase op 0 0).2 ≤ 2 ∧
      (encode (decodeBase op 0 0).1).take 1 = [op] := by decide
  exact (sameRow_decodeBase op b1 b2).encodesBack (htable op)

theorem encodesBack_decodeCB (op b1 b2 : Byte) : EncodesBack [0xCB, op] b1 b2 (decodeCB op, 0) := by
  have htable : ∀ op, (decodeCB op).wellFormed = true ∧ encode (decodeCB op) = [0xCB, op] := by decide
  obtain ⟨hwf, henc⟩ := htable op
  exact ⟨hwf, Nat.zero_le 2, henc⟩

theorem encodesBack_decodeED (op b1 b2 : Byte) : EncodesBack [0xED, op] b1 b2 (decodeED op b1 b2) := by
  have htable : ∀ op, (decodeED op 0 0).1.wellFormed = true ∧ (decodeED op 0 0).2 ≤ 2 ∧
      (encode (decodeED op 0 0).1).take 2 = [0xED, op] := by decide
  exact (sameRow_decodeED op b1 b2).encodesBack (htable op)

theorem encodesBack_decodeXYCB (xy : XY) (d op : Byte) :
    EncodesBack [xy.prefixByte, 0xCB] d op (decodeXYCB xy d op, 2) := by
  have htable : ∀ op, (decodeXYCB .ix 0 op).wellFormed = true ∧ (encode (decodeXYCB .ix 0 op)).drop 3 = [op] := by
    decide
  obtain ⟨hwf, hdrop⟩ := htable op
  obtain ⟨hwf', henc⟩ := encode_decodeXYCB_zero xy d op
  exact ⟨hwf'.trans hwf, le_rfl, by rw [henc, hdrop]; rfl⟩

/-- R134: the 85 listed opcodes are those that the XY format decodes. -/
theorem indexChanged_eq_filter :
    indexChanged = ((List.range 256).map byte).filter fun op => (decodeXY .ix op 0 0).isSome := by
  decide

/-- Neither the index register nor the operand bytes decide which opcodes the XY format decodes. -/
theorem isSome_decodeXY (xy : XY) (op b1 b2 : Byte) :
    (decodeXY xy op b1 b2).isSome = (decodeXY .ix op 0 0).isSome := by
  unfold decodeXY decodeLdXY decodeAluXY
  simp only []
  repeat' (first | split | rfl)

theorem mem_indexChanged_iff (xy : XY) (op b1 b2 : Byte) :
    op ∈ indexChanged ↔ (decodeXY xy op b1 b2).isSome = true := by
  have hmem : op ∈ (List.range 256).map byte :=
    List.mem_map.2 ⟨op.toNat, List.mem_range.2 op.isLt, BitVec.ofNat_toNat ..⟩
  rw [isSome_decodeXY, indexChanged_eq_filter, List.mem_filter, and_iff_right hmem]

/-- The XY format decodes nothing exactly where the index byte is ignored (R468). -/
theorem decodeXY_eq_none_iff {xy : XY} {op b1 b2 : Byte} (hop : op ≠ 0xCB) :
    decodeXY xy op b1 b2 = none ↔ indexPrefixIgnores op = true := by
  rw [indexPrefixIgnores, bne_iff_ne.2 hop, Bool.and_true, Bool.not_eq_true', ← Option.not_isSome_iff_eq_none,
    ← mem_indexChanged_iff, List.contains_eq_mem, decide_eq_false_iff_not]

/-- The rows of the XY format, with zeros for operands. -/
theorem decodeXY_rows (xy : XY) (op : Byte) :
    ∀ r ∈ decodeXY xy op 0 0, r.1.wellFormed = true ∧ r.2 ≤ 2 ∧ (encode r.1).take 2 = [xy.prefixByte, op] := by
  cases xy <;> revert op <;> decide

theorem encodesBack_decodeXY {xy : XY} {op b1 b2 : Byte} {r : Instr × Nat} (h : decodeXY xy op b1 b2 = some r) :
    EncodesBack [xy.prefixByte, op] b1 b2 r := by
  have hrow := sameRow_decodeXY xy op b1 b2
  have htable := decodeXY_rows xy op
  rw [h] at hrow
  generalize decodeXY xy op 0 0 = o at *
  cases hrow with
  | some hr => exact hr.encodesBack (htable _ rfl)

/-- What R138 asks of the instruction `d` that is read from `bytes`. -/
def Covers (bytes : List Byte) (d : Decoded) : Prop :=
  d.instr.wellFormed = true ∧ 1 ≤ d.m1s ∧ d.m1s ≤ d.len ∧ d.len ≤ 4 ∧
    encode d.instr = bytes.take (match d.instr with | .indexPrefixIgnored _ _ => 2 | _ => d.len)

/-- `m` bytes read by M1 and the operand bytes after them (R141). -/
theorem EncodesBack.covers {lead rest : List Byte} {b1 b2 : Byte} {r : Instr × Nat} {m : Nat}
    (h : EncodesBack lead b1 b2 r) (hi : isPrefixRow r.1 = false) (hlead : lead.length = m) (hpos : 1 ≤ m)
    (hle : m ≤ 2) : Covers (lead ++ b1 :: b2 :: rest) ⟨r.1, m + r.2, m⟩ := by
  obtain ⟨hwf, hcount, henc⟩ := h
  refine ⟨hwf, hpos, Nat.le_add_right .., Nat.add_le_add hle hcount, ?_⟩
  dsimp only
  split
  · next hr =>
    rw [hr] at hi
    cases hi
  · rw [henc, ← hlead, List.take_length_add_append]
    exact congrArg (lead ++ ·) (List.take_append_of_le_length (l₁ := [b1, b2]) hcount).symm

/-- Settles O2, by the five formats of R137. -/
theorem encodeOfDecode : Obligations.EncodeOfDecode := by
  intro b0 b1 b2 b3
  show Covers [b0, b1, b2, b3] (decodeBytes b0 b1 b2 b3)
  rcases firstByte_cases b0 with rfl | rfl | ⟨xy, rfl⟩ | hop
  · exact (encodesBack_decodeCB b1 b2 b3).covers (isPrefixRow_decodeCB b1) rfl (by decide) (by decide)
  · exact (encodesBack_decodeED b1 b2 b3).covers (isPrefixRow_decodeED b1 b2 b3) rfl (by decide) (by decide)
  · by_cases hcb : b1 = 0xCB
    · subst hcb
      rw [decodeBytes_xycb]
      exact (encodesBack_decodeXYCB xy b2 b3).covers (isPrefixRow_decodeXYCB xy b2 b3) rfl (by decide) (by decide)
    · rw [decodeBytes_xy xy hcb]
      cases hr : decodeXY xy b1 b2 b3 with
      | some r => exact (encodesBack_decodeXY hr).covers (isPrefixRow_decodeXY hr) rfl (by decide) (by decide)
      | none => exact ⟨(decodeXY_eq_none_iff hcb).1 hr, le_rfl, le_rfl, Nat.le_add_left 1 3, rfl⟩
  · rw [decodeBytes_base hop]
    exact (encodesBack_decodeBase b0 b1 b2).covers (isPrefixRow_decodeBase hop b1 b2) rfl (by decide) (by decide)

/-! ### Decoding a list of bytes -/

/-- What the first four bytes of the list decode to, with zeros after its end. -/
def decodePadded (l : List Byte) : Decoded := decodeBytes (l.getD 0 0) (l.getD 1 0) (l.getD 2 0) (l.getD 3 0)

theorem complete_of_le {d : Decoded} {n : Nat} (h : d.len ≤ n) : complete d n = .ok d := if_pos h

theorem len_decodeBytes_le (b0 b1 b2 b3 : Byte) : (decodeBytes b0 b1 b2 b3).len ≤ 4 := by
  obtain ⟨-, -, -, hlen, -⟩ := encodeOfDecode b0 b1 b2 b3
  exact hlen

theorem eq_prefixByte_of_xyOf {b : Byte} {xy : XY} (h : xyOf b = some xy) : b = xy.prefixByte := by
  unfold xyOf at h
  grind [XY.prefixByte]

/-- Two bytes that are not `DD CB` or `FD CB`. -/
theorem decode_pair {b0 b1 : Byte} (h : b1 = 0xCB → xyOf b0 = none) :
    decode [b0, b1] = complete (decodeBytes b0 b1 0 0) 2 := by
  unfold decode
  cases hxy : xyOf b0 with
  | none => simp only [hxy]
  | some xy =>
    have hcb : b1 ≠ 0xCB := fun hb => nomatch hxy.symm.trans (h hb)
    simp only [hxy, if_neg hcb]

/-- A whole instruction within the list is what `decode` answers: the rows of leading bytes are for lists that end too
early (log 8). -/
theorem decode_of_complete {l : List Byte} (hlen : (decodePadded l).len ≤ l.length)
    (hi : isPrefixRow (decodePadded l).instr = false) : decode l = .ok (decodePadded l) := by
  match l with
  | [] => exact absurd hlen (by decide)
  | [b0] =>
    have hrow : ∀ b0, isPrefixByte b0 = true → (decodeBytes b0 0 0 0).len ≤ 1 →
        isPrefixRow (decodeBytes b0 0 0 0).instr = true := by decide
    have hb : ¬isPrefixByte b0 = true := fun hb => Bool.false_ne_true (hi.symm.trans (hrow b0 hb hlen))
    exact (if_neg hb).trans (complete_of_le hlen)
  | [b0, b1] =>
    have hpair : b1 = 0xCB → xyOf b0 = none := by
      rintro rfl
      cases hxy : xyOf b0 with
      | none => rfl
      | some xy =>
        have hd : decodePadded [b0, 0xCB] = ⟨decodeXYCB xy 0 0, 4, 2⟩ := by
          rw [eq_prefixByte_of_xyOf hxy]
          exact decodeBytes_xycb xy 0 0
        rw [hd] at hlen
        exact absurd (show 4 ≤ 2 from hlen) (by decide)
    exact (decode_pair hpair).trans (complete_of_le hlen)
  | [b0, b1, b2] => exact complete_of_le hlen
  | b0 :: b1 :: b2 :: b3 :: _ => exact complete_of_le (len_decodeBytes_le b0 b1 b2 b3)

/-! ### Decoding what was encoded -/

/-- The encoding of `i` is read as `i` with its length, whatever bytes follow it. -/
def ReadsBack (i : Instr) : Prop := ∀ rest, ∃ m, decodePadded (encode i ++ rest) = ⟨i, (encode i).length, m⟩

theorem ReadsBack.decode {i : Instr} (h : ReadsBack i) (hi : isPrefixRow i = false) (rest : List Byte) :
    ∃ d, decode (encode i ++ rest) = .ok d ∧ d.instr = i ∧ d.len = (encode i).length := by
  obtain ⟨m, hd⟩ := h rest
  refine ⟨_, (decode_of_complete ?_ ?_).trans (congrArg _ hd), rfl, rfl⟩
  · rw [hd, List.length_append]
    exact Nat.le_add_right ..
  · rwa [hd]

theorem isPrefixRow_decodeBase_of_isPrefixByte {op : Byte} (h : isPrefixByte op = true) (b1 b2 : Byte) :
    isPrefixRow (decodeBase op b1 b2).1 = true := by
  simp only [isPrefixByte, Bool.or_eq_true, beq_iff_eq] at h
  rcases h with ((rfl | rfl) | rfl) | rfl <;> rfl

theorem decodeBytes_of_decodeBase {op b1 b2 : Byte} {r : Instr × Nat} (h : decodeBase op b1 b2 = r)
    (hi : isPrefixRow r.1 = false) (b3 : Byte) : decodeBytes op b1 b2 b3 = ⟨r.1, 1 + r.2, 1⟩ := by
  subst h
  refine decodeBytes_base ?_ b1 b2 b3
  by_contra hop
  exact ne_true_of_eq_false hi (isPrefixRow_decodeBase_of_isPrefixByte (eq_true_of_ne_false hop) b1 b2)

theorem decodeBytes_of_decodeED {op b1 b2 : Byte} {r : Instr × Nat} (h : decodeED op b1 b2 = r) :
    decodeBytes 0xED op b1 b2 = ⟨r.1, 2 + r.2, 2⟩ := by
  subst h
  rfl

theorem decodeBytes_of_decodeXY {xy : XY} {op b1 b2 : Byte} {r : Instr × Nat} (h : decodeXY xy op b1 b2 = some r) :
    decodeBytes xy.prefixByte op b1 b2 = ⟨r.1, 2 + r.2, 2⟩ := by
  have hop : op ≠ 0xCB := by
    rintro rfl
    cases h
  rw [decodeBytes_xy xy hop, h]
  rfl

theorem decodeXY_of_plain {xy : XY} {op : Byte} {i : Instr} (h : decodeXY xy op 0 0 = some (i, 0)) (b1 b2 : Byte) :
    decodeXY xy op b1 b2 = some (i, 0) := by
  have hrow := sameRow_decodeXY xy op b1 b2
  rw [h] at hrow
  generalize decodeXY xy op b1 b2 = o at *
  cases hrow with
  | some hr => rw [hr.plain rfl]

namespace ReadsBack

variable {i : Instr} {op : Byte} {xy : XY}

/-! One rule per format and kind of operand. A row without operand bytes is read as before zeros (`SameRow.plain`). -/

theorem base (e : encode i = [op]) (hi : isPrefixRow i = false) (h : decodeBase op 0 0 = (i, 0)) : ReadsBack i := by
  intro rest
  have hrow := (sameRow_decodeBase op (rest.getD 0 0) (rest.getD 1 0)).plain (by rw [h])
  rw [e]
  exact ⟨1, decodeBytes_of_decodeBase (hrow.trans h) hi _⟩

theorem baseByte {n : Byte} (e : encode i = [op, n]) (hi : isPrefixRow i = false)
    (h : ∀ b, decodeBase op n b = (i, 1)) : ReadsBack i := by
  intro rest
  rw [e]
  exact ⟨1, decodeBytes_of_decodeBase (h _) hi _⟩

theorem baseWord {mk : Word → Instr} (nn : Word) (e : encode (mk nn) = op :: wordBytes nn)
    (hi : isPrefixRow (mk nn) = false) (h : ∀ lo hi, decodeBase op lo hi = (mk (operandWord lo hi), 2)) :
    ReadsBack (mk nn) := by
  intro rest
  have hmk : decodeBase op (loByte nn) (hiByte nn) = (mk nn, 2) := by rw [h, operandWord_wordBytes]
  rw [e]
  exact ⟨1, decodeBytes_of_decodeBase hmk hi _⟩

theorem cb (e : encode i = [0xCB, op]) (h : decodeCB op = i) : ReadsBack i := by
  intro rest
  rw [e, ← h]
  exact ⟨2, decodeBytes_cb ..⟩

theorem ed (e : encode i = [0xED, op]) (h : decodeED op 0 0 = (i, 0)) : ReadsBack i := by
  intro rest
  have hrow := (sameRow_decodeED op (rest.getD 0 0) (rest.getD 1 0)).plain (by rw [h])
  rw [e]
  exact ⟨2, decodeBytes_of_decodeED (hrow.trans h)⟩

theorem edWord {mk : Word → Instr} (nn : Word) (e : encode (mk nn) = 0xED :: op :: wordBytes nn)
    (h : ∀ lo hi, decodeED op lo hi = (mk (operandWord lo hi), 2)) : ReadsBack (mk nn) := by
  intro rest
  have hmk : decodeED op (loByte nn) (hiByte nn) = (mk nn, 2) := by rw [h, operandWord_wordBytes]
  rw [e]
  exact ⟨2, decodeBytes_of_decodeED hmk⟩

theorem index (e : encode i = [xy.prefixByte, op]) (h : decodeXY xy op 0 0 = some (i, 0)) : ReadsBack i := by
  intro rest
  rw [e]
  exact ⟨2, decodeBytes_of_decodeXY (decodeXY_of_plain h ..)⟩

theorem indexByte {d : Byte} (e : encode i = [xy.prefixByte, op, d]) (h : ∀ b, decodeXY xy op d b = some (i, 1)) :
    ReadsBack i := by
  intro rest
  rw [e]
  exact ⟨2, decodeBytes_of_decodeXY (h _)⟩

theorem indexBytes {d n : Byte} (e : encode i = [xy.prefixByte, op, d, n]) (h : decodeXY xy op d n = some (i, 2)) :
    ReadsBack i := by
  intro rest
  rw [e]
  exact ⟨2, decodeBytes_of_decodeXY h⟩

theorem indexWord {mk : Word → Instr} (nn : Word) (e : encode (mk nn) = xy.prefixByte :: op :: wordBytes nn)
    (h : ∀ lo hi, decodeXY xy op lo hi = some (mk (operandWord lo hi), 2)) : ReadsBack (mk nn) :=
  indexBytes e (by rw [h, operandWord_wordBytes])

theorem indexCb {d : Byte} (e : encode i = [xy.prefixByte, 0xCB, d, op]) (h : decodeXYCB xy d op = i) :
    ReadsBack i := by
  intro rest
  rw [e, ← h]
  exact ⟨2, decodeBytes_xycb ..⟩

end ReadsBack

/-- The row of an index byte alone. -/
def indexPrefixRow : XY → Instr
  | .ix => .prefixDd
  | .iy => .prefixFd

theorem eq_prefixRow_of_isPrefixRow {i : Instr} (hi : isPrefixRow i = true) :
    i = .prefixCb ∨ i = .prefixEd ∨ (∃ xy, i = indexPrefixRow xy) ∨ (∃ xy, i = .prefixCbIndex xy) ∨
      ∃ xy o, i = .indexPrefixIgnored xy o := by
  cases i
  case prefixCb => exact .inl rfl
  case prefixEd => exact .inr (.inl rfl)
  case prefixDd => exact .inr (.inr (.inl ⟨.ix, rfl⟩))
  case prefixFd => exact .inr (.inr (.inl ⟨.iy, rfl⟩))
  case prefixCbIndex xy => exact .inr (.inr (.inr (.inl ⟨xy, rfl⟩)))
  case indexPrefixIgnored xy o => exact .inr (.inr (.inr (.inr ⟨xy, o, rfl⟩)))
  all_goals cases hi

/-- Every well-formed instruction but the rows of leading bytes, by format. -/
theorem readsBack : ∀ i : Instr, i.wellFormed = true → isPrefixRow i = false → ReadsBack i
  -- the base space
  | .nop, _, _ | .exAfAf, _, _ | .ldMemBcA, _, _ | .ldMemDeA, _, _ | .ldAMemBc, _, _ | .ldAMemDe, _, _
  | .incMemHl, _, _ | .decMemHl, _, _ | .rlca, _, _ | .rrca, _, _ | .rla, _, _ | .rra, _, _ | .daa, _, _
  | .cpl, _, _ | .scf, _, _ | .ccf, _, _ | .halt, _, _ | .addAMemHl, _, _ | .adcAMemHl, _, _ | .subMemHl, _, _
  | .sbcAMemHl, _, _ | .andMemHl, _, _ | .xorMemHl, _, _ | .orMemHl, _, _ | .cpMemHl, _, _ | .ret, _, _ | .exx, _, _
  | .jpHl, _, _ | .ldSpHl, _, _ | .exSpHl, _, _ | .exDeHl, _, _ | .di, _, _ | .ei, _, _ => .base rfl rfl rfl
  | .addHlSs k, _, _ | .incSs k, _, _ | .decSs k, _, _ | .popQq k, _, _ | .pushQq k, _, _ | .retCc k, _, _
  | .incR k, _, _ | .decR k, _, _ | .ldRMemHl k, _, _ | .ldMemHlR k, _, _ | .addAR k, _, _ | .adcAR k, _, _
  | .subR k, _, _ | .sbcAR k, _, _ | .andR k, _, _ | .xorR k, _, _ | .orR k, _, _ | .cpR k, _, _ =>
    .base rfl rfl (by cases k <;> rfl)
  | .ldRR r src, _, _ => .base rfl rfl (by cases r <;> cases src <;> rfl)
  | .rst k, _, _ => .base rfl rfl (by decide +revert)
  | .djnz _, _, _ | .jr _, _, _ | .ldMemHlN _, _, _ | .outNA _, _, _ | .inAN _, _, _ | .addAN _, _, _
  | .adcAN _, _, _ | .subN _, _, _ | .sbcAN _, _, _ | .andN _, _, _ | .xorN _, _, _ | .orN _, _, _ | .cpN _, _, _ =>
    .baseByte rfl rfl fun _ => rfl
  | .jrCc k _, _, _ | .ldRN k _, _, _ => .baseByte rfl rfl (by cases k <;> exact fun _ => rfl)
  | .ldMemNnHl nn, _, _ | .ldMemNnA nn, _, _ | .ldHlMemNn nn, _, _ | .ldAMemNn nn, _, _ | .jpNn nn, _, _
  | .callNn nn, _, _ => .baseWord nn rfl rfl fun _ _ => rfl
  | .ldDdNn k nn, _, _ | .jpCcNn k nn, _, _ | .callCcNn k nn, _, _ =>
    .baseWord nn rfl rfl (by cases k <;> exact fun _ _ => rfl)
  -- the CB space
  | .rlcMemHl, _, _ | .rrcMemHl, _, _ | .rlMemHl, _, _ | .rrMemHl, _, _ | .slaMemHl, _, _ | .sraMemHl, _, _
  | .sllMemHl, _, _ | .srlMemHl, _, _ => .cb rfl rfl
  | .rlcR r, _, _ | .rrcR r, _, _ | .rlR r, _, _ | .rrR r, _, _ | .slaR r, _, _ | .sraR r, _, _ | .sllR r, _, _
  | .srlR r, _, _ => .cb rfl (by cases r <;> rfl)
  | .bitBMemHl _, _, _ | .resBMemHl _, _, _ | .setBMemHl _, _, _ => .cb rfl (by decide +revert)
  | .bitBR _ r, _, _ | .resBR _ r, _, _ | .setBR _ r, _, _ => .cb rfl (by cases r <;> decide +revert)
  -- the ED space
  | .inFC, _, _ | .outC0, _, _ | .neg, _, _ | .retn, _, _ | .reti, _, _ | .im0, _, _ | .im0Mirror4E, _, _
  | .im0Mirror66, _, _ | .im0Mirror6E, _, _ | .im1, _, _ | .im1Mirror, _, _ | .im2, _, _ | .im2Mirror, _, _
  | .ldIA, _, _ | .ldRA, _, _ | .ldAI, _, _ | .ldAR, _, _ | .rrd, _, _ | .rld, _, _ | .ldi, _, _ | .cpi, _, _
  | .ini, _, _ | .outi, _, _ | .ldd, _, _ | .cpd, _, _ | .ind, _, _ | .outd, _, _ | .ldir, _, _ | .cpir, _, _
  | .inir, _, _ | .otir, _, _ | .lddr, _, _ | .cpdr, _, _ | .indr, _, _ | .otdr, _, _ => .ed rfl rfl
  | .inRC k, _, _ | .outCR k, _, _ | .sbcHlSs k, _, _ | .adcHlSs k, _, _ => .ed rfl (by cases k <;> rfl)
  | .nopEd77 _, _, _ | .nopEd00 _, _, _ | .nopEd80 _, _, _ | .nopEdA4 _ _, _, _ | .nopEdAC _ _, _, _
  | .nopEdC0 _, _, _ => .ed rfl (by decide +revert)
  | .negMirror y, hy, _ | .retnMirror y, hy, _ => .ed rfl (by revert y; decide)
  | .ldDdMemNn k nn, _, _ => .edWord nn rfl (by cases k <;> exact fun _ _ => rfl)
  | .ldMemNnDd nn k, _, _ => .edWord (mk := (.ldMemNnDd · k)) nn rfl (by cases k <;> exact fun _ _ => rfl)
  -- an index byte
  | .incXy _, _, _ | .decXy _, _, _ | .popXy _, _, _ | .exSpXy _, _, _ | .pushXy _, _, _ | .jpXy _, _, _
  | .ldSpXy _, _, _ => .index rfl rfl
  | .addXyPp _ k, _, _ | .incXyh _ k, _, _ | .decXyh _ k, _, _ | .addAXyh _ k, _, _ | .adcAXyh _ k, _, _
  | .subXyh _ k, _, _ | .sbcAXyh _ k, _, _ | .andXyh _ k, _, _ | .xorXyh _ k, _, _ | .orXyh _ k, _, _
  | .cpXyh _ k, _, _ => .index rfl (by cases k <;> rfl)
  | .ldXyhXyg _ h g, _, _ => .index rfl (by cases h <;> cases g <;> rfl)
  | .ldRXyh r _ h, hr, _ | .ldXyhR _ h r, hr, _ => .index rfl (by cases h <;> cases r <;> first | rfl | cases hr)
  | .incMemXyd _ _, _, _ | .decMemXyd _ _, _, _ | .addAMemXyd _ _, _, _ | .adcAMemXyd _ _, _, _
  | .subMemXyd _ _, _, _ | .sbcAMemXyd _ _, _, _ | .andMemXyd _ _, _, _ | .xorMemXyd _ _, _, _ | .orMemXyd _ _, _, _
  | .cpMemXyd _ _, _, _ => .indexByte rfl fun _ => rfl
  | .ldXyhN _ k _, _, _ | .ldRMemXyd k _ _, _, _ | .ldMemXydR _ _ k, _, _ =>
    .indexByte rfl (by cases k <;> exact fun _ => rfl)
  | .ldMemXydN _ _ _, _, _ => .indexBytes rfl rfl
  | .ldXyNn _ nn, _, _ | .ldXyMemNn _ nn, _, _ => .indexWord nn rfl fun _ _ => rfl
  | .ldMemNnXy nn xy, _, _ => .indexWord (mk := (.ldMemNnXy · xy)) nn rfl fun _ _ => rfl
  -- an index byte and CB
  | .rlcMemXyd _ _, _, _ | .rrcMemXyd _ _, _, _ | .rlMemXyd _ _, _, _ | .rrMemXyd _ _, _, _ | .slaMemXyd _ _, _, _
  | .sraMemXyd _ _, _, _ | .sllMemXyd _ _, _, _ | .srlMemXyd _ _, _, _ => .indexCb rfl rfl
  | .rlcMemXydR _ _ r, _, _ | .rrcMemXydR _ _ r, _, _ | .rlMemXydR _ _ r, _, _ | .rrMemXydR _ _ r, _, _
  | .slaMemXydR _ _ r, _, _ | .sraMemXydR _ _ r, _, _ | .sllMemXydR _ _ r, _, _ | .srlMemXydR _ _ r, _, _ =>
    .indexCb rfl (by cases r <;> rfl)
  | .bitBMemXyd bn _ _, _, _ | .resBMemXyd bn _ _, _, _ | .setBMemXyd bn _ _, _, _ =>
    .indexCb rfl (by fin_cases bn <;> rfl)
  | .bitBMemXydMirror bn _ _ r, _, _ | .resBMemXydR bn _ _ r, _, _ | .setBMemXydR bn _ _ r, _, _ =>
    .indexCb rfl (by fin_cases bn <;> cases r <;> rfl)

theorem decode_indexPrefixIgnored (xy : XY) {o : Byte} (ho : indexPrefixIgnores o = true) :
    decode [xy.prefixByte, o] = .ok ⟨.indexPrefixIgnored xy o, 1, 1⟩ := by
  have hcb : o ≠ 0xCB := by
    rintro rfl
    exact absurd ho (by decide)
  rw [decode_pair (absurd · hcb), decodeBytes_xy xy hcb, (decodeXY_eq_none_iff hcb).2 ho]
  rfl

/-- Settles O1: the whole instructions by `readsBack`, each row of leading bytes by the list that ends there. -/
theorem decodeOfEncode : Obligations.DecodeOfEncode := by
  intro i hwf
  cases hi : isPrefixRow i with
  | false =>
    have hread := (readsBack i hwf hi).decode hi
    refine ⟨?_, fun _ => hread⟩
    obtain ⟨d, hd, hinstr, hlen⟩ := hread []
    refine ⟨d, by rwa [List.append_nil] at hd, hinstr, ?_⟩
    split
    · cases hi
    · exact hlen
  | true =>
    refine ⟨?_, nofun⟩
    rcases eq_prefixRow_of_isPrefixRow hi with rfl | rfl | ⟨xy, rfl⟩ | ⟨xy, rfl⟩ | ⟨xy, o, rfl⟩
    · exact ⟨_, rfl, rfl, rfl⟩
    · exact ⟨_, rfl, rfl, rfl⟩
    · cases xy <;> exact ⟨_, rfl, rfl, rfl⟩
    · cases xy <;> exact ⟨_, rfl, rfl, rfl⟩
    · exact ⟨_, decode_indexPrefixIgnored xy hwf, rfl, rfl⟩

/-- Settles O3: each word is evaluated. -/
theorem decodeSampleWords : Obligations.DecodeSampleWords := ⟨rfl, rfl, rfl, rfl, rfl, rfl⟩

end Sys2Proof.Machine
end

section
/-! The obligations about running what was decoded: the rows of leading bytes, completion, a step of an instruction, and
the jumps. -/

namespace Sys2Proof.Machine

/-! ### What follows a leading byte (R135, R137, R468) -/

theorem exec_next {i : Instr} (hi : isPrefixRow i = false) (s : State) : ∃ t, exec i s = .next t := by
  obtain ⟨u, -, -, h⟩ := exec_completes s i hi
  exact ⟨_, h⟩

/-- A leading byte and an opcode byte that make a whole instruction: the second M1, the operand bytes, then the
instruction. -/
theorem execAfterPrefix_of_decodeBytes {b0 : Byte} {s : State} {i : Instr} {n : Nat}
    (hd : decodeBytes b0 (m1Byte s s.regs.pc) (memRead s (s.regs.pc + 1)) (memRead s (s.regs.pc + 2)) = ⟨i, 2 + n, 2⟩)
    (hi : isPrefixRow i = false) : execAfterPrefix b0 s = exec i (skipBytes n (fetchM1 1 s)) := by
  have hrest : fetchRest ⟨i, 2 + n, 2⟩ s = skipBytes n (fetchM1 1 s) := by
    rw [fetchRest, if_pos rfl, Nat.add_sub_cancel_left]
  unfold execAfterPrefix
  simp only [hd, hrest]
  split
  · cases hi
  · exact execDecoded_eq_exec _ _ hi

/-- An index byte that is ignored. -/
theorem execAfterPrefix_of_ignored {b0 : Byte} {s : State} {xy : XY} {o : Byte}
    (hd : decodeBytes b0 (m1Byte s s.regs.pc) (memRead s (s.regs.pc + 1)) (memRead s (s.regs.pc + 2)) =
      ⟨.indexPrefixIgnored xy o, 1, 1⟩) : execAfterPrefix b0 s = exec (.indexPrefixIgnored xy o) s := by
  have hrest : fetchRest ⟨.indexPrefixIgnored xy o, 1, 1⟩ s = s := skipBytes_zero s
  unfold execAfterPrefix
  simp only [hd, hrest]
  rfl

theorem exec_prefixCb (s : State) : exec .prefixCb s = exec (decodeCB (m1Byte s s.regs.pc)) (fetchM1 1 s) := by
  rw [← skipBytes_zero (fetchM1 1 s)]
  exact execAfterPrefix_of_decodeBytes (decodeBytes_cb ..) (isPrefixRow_decodeCB _)

theorem exec_prefixEd (s : State) :
    let r := decodeED (m1Byte s s.regs.pc) (memRead s (s.regs.pc + 1)) (memRead s (s.regs.pc + 2))
    exec .prefixEd s = exec r.1 (skipBytes r.2 (fetchM1 1 s)) :=
  execAfterPrefix_of_decodeBytes (decodeBytes_ed ..) (isPrefixRow_decodeED ..)

theorem exec_prefixCbIndex (xy : XY) (s : State) :
    exec (.prefixCbIndex xy) s =
      exec (decodeXYCB xy (memRead s s.regs.pc) (memRead s (s.regs.pc + 1))) (skipBytes 2 s) :=
  execDecoded_eq_exec _ _ (isPrefixRow_decodeXYCB ..)

theorem exec_indexPrefixRow (xy : XY) (s : State) :
    exec (indexPrefixRow xy) s = execAfterPrefix xy.prefixByte s := by
  cases xy <;> rfl

section
/-! What follows `DD` and `FD`, by the byte that the second M1 fetches. -/

variable {xy : XY} {s : State}

theorem exec_indexPrefixRow_cb (h : m1Byte s s.regs.pc = 0xCB) :
    exec (indexPrefixRow xy) s =
      exec (decodeXYCB xy (memRead s (s.regs.pc + 1)) (memRead s (s.regs.pc + 2))) (skipBytes 2 (fetchM1 1 s)) := by
  rw [exec_indexPrefixRow]
  refine execAfterPrefix_of_decodeBytes ?_ (isPrefixRow_decodeXYCB ..)
  rw [h, decodeBytes_xycb]

theorem exec_indexPrefixRow_some (h : m1Byte s s.regs.pc ≠ 0xCB) {j : Instr} {n : Nat}
    (hj : decodeXY xy (m1Byte s s.regs.pc) (memRead s (s.regs.pc + 1)) (memRead s (s.regs.pc + 2)) = some (j, n)) :
    exec (indexPrefixRow xy) s = exec j (skipBytes n (fetchM1 1 s)) := by
  rw [exec_indexPrefixRow]
  refine execAfterPrefix_of_decodeBytes ?_ (isPrefixRow_decodeXY hj)
  rw [decodeBytes_xy xy h, hj]
  rfl

theorem exec_indexPrefixRow_none (h : m1Byte s s.regs.pc ≠ 0xCB)
    (hj : decodeXY xy (m1Byte s s.regs.pc) (memRead s (s.regs.pc + 1)) (memRead s (s.regs.pc + 2)) = none) :
    exec (indexPrefixRow xy) s = exec (.indexPrefixIgnored xy (m1Byte s s.regs.pc)) s := by
  rw [exec_indexPrefixRow]
  refine execAfterPrefix_of_ignored ?_
  rw [decodeBytes_xy xy h, hj]
  rfl

end

theorem exec_indexPrefixIgnored_next (xy : XY) (o : Byte) (s : State) :
    ∃ t, exec (.indexPrefixIgnored xy o) s = .next t := by
  show ∃ t, execIndexPrefixIgnored xy o s = .next t
  unfold execIndexPrefixIgnored
  split
  · exact ⟨_, rfl⟩
  · next ho =>
    simp only [execDecoded_eq_exec _ _ (isPrefixRow_decodeBytes ho _ _ _)]
    exact exec_next (isPrefixRow_decodeBytes ho _ _ _) _

theorem exec_indexPrefixRow_next (xy : XY) (s : State) : ∃ t, exec (indexPrefixRow xy) s = .next t := by
  by_cases hcb : m1Byte s s.regs.pc = 0xCB
  · rw [exec_indexPrefixRow_cb hcb]
    exact exec_next (isPrefixRow_decodeXYCB ..) _
  · cases hj : decodeXY xy (m1Byte s s.regs.pc) (memRead s (s.regs.pc + 1)) (memRead s (s.regs.pc + 2)) with
    | some r =>
      rw [exec_indexPrefixRow_some hcb hj]
      exact exec_next (isPrefixRow_decodeXY hj) _
    | none =>
      rw [exec_indexPrefixRow_none hcb hj]
      exact exec_indexPrefixIgnored_next ..

/-- Settles O54: the whole instructions by `exec_completes`, the rows of leading bytes by what follows them. -/
theorem everyInstructionCompletes : Obligations.EveryInstructionCompletes := by
  intro i s
  cases hi : isPrefixRow i
  · exact exec_next hi s
  · rcases eq_prefixRow_of_isPrefixRow hi with rfl | rfl | ⟨xy, rfl⟩ | ⟨xy, rfl⟩ | ⟨xy, o, rfl⟩
    · rw [exec_prefixCb]
      exact exec_next (isPrefixRow_decodeCB _) _
    · rw [exec_prefixEd]
      exact exec_next (isPrefixRow_decodeED ..) _
    · exact exec_indexPrefixRow_next xy s
    · rw [exec_prefixCbIndex]
      exact exec_next (isPrefixRow_decodeXYCB ..) _
    · exact exec_indexPrefixIgnored_next xy o s

/-- Settles O40: each row of leading bytes is the instruction that follows, which completes. -/
theorem prefixBytes : Obligations.PrefixBytes := by
  intro s
  have hnext := fun i => everyInstructionCompletes i s
  refine ⟨?_, ?_, fun xy i hi => ?_, fun xy => ?_⟩
  · obtain ⟨t, ht⟩ := hnext .prefixCb
    exact ⟨t, ht, (exec_prefixCb s).symm.trans ht⟩
  · obtain ⟨t, ht⟩ := hnext .prefixEd
    exact ⟨t, ht, (exec_prefixEd s).symm.trans ht⟩
  · obtain rfl : i = indexPrefixRow xy := by rcases hi with ⟨rfl, rfl⟩ | ⟨rfl, rfl⟩ <;> rfl
    obtain ⟨t, ht⟩ := hnext (indexPrefixRow xy)
    exact ⟨t, ht, fun hop => (exec_indexPrefixRow_cb hop).symm.trans ht,
      fun hop _ _ hj => (exec_indexPrefixRow_some hop hj).symm.trans ht,
      fun hop hj => (exec_indexPrefixRow_none hop hj).symm.trans ht⟩
  · obtain ⟨t, ht⟩ := hnext (.prefixCbIndex xy)
    exact ⟨t, ht, (exec_prefixCbIndex xy s).symm.trans ht⟩

/-! ### A step that runs an instruction (R137, R504) -/

theorem eq_of_complete_eq_ok {d d' : Decoded} {n : Nat} (h : complete d n = .ok d') : d = d' := by
  unfold complete at h
  split at h
  · injection h
  · cases h

theorem decodeAt_of_decode_fetchBytes {s : State} {d : Decoded} (h : decode (fetchBytes s) = .ok d) : decodeAt s = d :=
  eq_of_complete_eq_ok h

theorem step_of_instruction {s : State} (hk : stepKind s = .instruction) :
    step s = finishOutcome
      (exec (decodeAt (beginStep s)).instr (fetchDecoded (decodeAt (beginStep s)) (beginStep s))) := by
  unfold step
  simp only [hk]

/-- Settles O4: the start of a step changes none of the bytes at PC. -/
theorem stepRunsDecoded : Obligations.StepRunsDecoded := by
  intro s d hk hd
  have hat : decodeAt (beginStep s) = d := decodeAt_of_decode_fetchBytes (s := beginStep s) hd
  rw [step_of_instruction hk, hat]

/-! ### Jumps (R390 to R396) -/

theorem exec_jpCcNn (cc : Cond) (nn : Word) (s : State) :
    exec (.jpCcNn cc nn) s =
      .next (afterQuiet 10 { s.regs with pc := if condHolds cc s.regs.f then nn else s.regs.pc, wz := nn } s) := by
  show endPlain 10 (if condHolds cc s.regs.f then jumpTo nn (setWZ nn s) else setWZ nn s) = _
  split <;> rfl

theorem exec_jrCc_of_taken {cc : Cond4} {s : State} (h : cond4Holds cc s.regs.f = true) (e : Byte) :
    exec (.jrCc cc e) s = exec (.jr e) s :=
  if_pos h

theorem exec_jrCc_of_not_taken {cc : Cond4} {s : State} (h : cond4Holds cc s.regs.f = false) (e : Byte) :
    exec (.jrCc cc e) s = .next (afterQuiet 7 s.regs s) :=
  if_neg (ne_true_of_eq_false h)

/-- `DJNZ` is taken where B is not 0 after its decrement. -/
theorem exec_djnz_of_taken {s : State} (h : s.regs.b ≠ 1) (e : Byte) :
    exec (.djnz e) s = .next (afterQuiet 13 { s.regs with
      b := s.regs.b - 1, pc := s.regs.pc + e.signExtend 16, wz := s.regs.pc + e.signExtend 16 } s) :=
  if_pos (bne_iff_ne.2 (sub_ne_zero.2 h))

theorem exec_djnz_of_not_taken {s : State} (h : s.regs.b = 1) (e : Byte) :
    exec (.djnz e) s = .next (afterQuiet 8 { s.regs with b := 0 } s) := by
  have hb : s.regs.b - 1 = 0 := sub_eq_zero.2 h
  have hexec : exec (.djnz e) s = endPlain 8 (s.withRegs { s.regs with b := s.regs.b - 1 }) :=
    if_neg fun hne => bne_iff_ne.1 hne hb
  rw [hexec, hb]
  rfl

/-- Settles O30: the conditions read the flags of the packed byte; each jump is written out once. -/
theorem jumpsAndConditions : Obligations.JumpsAndConditions := by
  refine ⟨fun s z y h x pv n c => ?_, fun s => ⟨fun _ => rfl, fun cc nn => exec_jpCcNn cc nn s, fun _ => rfl,
    fun _ e => ⟨(exec_jrCc_of_taken · e), (exec_jrCc_of_not_taken · e)⟩, rfl, fun _ => rfl,
    fun e => ⟨(exec_djnz_of_taken · e), (exec_djnz_of_not_taken · e)⟩⟩⟩
  simp [condHolds, cond4Holds]

end Sys2Proof.Machine
end

section
/-! The obligations about 8-bit loads: each instruction written out as the registers it leaves or the byte it stores. -/

namespace Sys2Proof.Machine

/-! ### Loads of registers (R200, R201, R218 to R221) -/

/-- The end of an instruction that writes registers and nothing else. -/
theorem endPlain_withRegs (n : Nat) (g : Regs) (s : State) : endPlain n (s.withRegs g) = .next (afterQuiet n g s) := rfl

/-- Settles O10: each form is one register write and then the end of the instruction. -/
theorem loadRegisters8 : Obligations.LoadRegisters8 :=
  ⟨fun _ _ s => endPlain_withRegs 4 _ s, fun _ _ s => endPlain_withRegs 7 _ s, fun _ _ _ s => endPlain_withRegs 8 _ s,
    fun _ _ _ s => endPlain_withRegs 8 _ s, fun _ _ _ s => endPlain_withRegs 8 _ s,
    fun _ _ _ s => endPlain_withRegs 11 _ s⟩

/-! ### Latching WZ touches no operand (R53, R131) -/

theorem setR8_withWZ (r : Reg8) (v : Byte) (g : Regs) (wz : Word) :
    setR8 r v { g with wz := wz } = { setR8 r v g with wz := wz } := by
  cases r <;> rfl

theorem getR8_withWZ (r : Reg8) (g : Regs) (wz : Word) : getR8 r { g with wz := wz } = getR8 r g := by
  cases r <;> rfl

theorem memWrite_setWZ (s : State) (wz addr : Word) (v : Byte) :
    memWrite (setWZ wz s) addr v = setWZ wz (memWrite s addr v) := by
  rw [memWrite_eq, memWrite_eq]
  rfl

/-! ### Loads from memory (R202, R203, R208 to R210) -/

/-- `LD r,(XY+d)`: the byte at the effective address, which stays in WZ. -/
theorem exec_ldRMemXyd (r : Reg8) (xy : XY) (d : Byte) (s : State) :
    exec (.ldRMemXyd r xy d) s =
      .next (afterQuiet 19
        { setR8 r (memRead s (indexedAddr xy d s.regs)) s.regs with wz := indexedAddr xy d s.regs } s) := by
  rw [← setR8_withWZ]
  exact endPlain_withRegs 19 _ (latchEA xy d s)

/-- Settles O11: each form is one register write; the indexed one reads after its address is latched. -/
theorem loadFromMemory8 : Obligations.LoadFromMemory8 := fun s =>
  ⟨fun _ => endPlain_withRegs 7 _ s, fun r xy d => exec_ldRMemXyd r xy d s, endPlain_withRegs 7 _ s,
    endPlain_withRegs 7 _ s, fun _ => endPlain_withRegs 13 _ s⟩

/-! ### 8-bit stores (R204 to R207, R211 to R213) -/

theorem storesTo_memWrite {s : State} (hs : s.memWf) (addr : Word) (v : Byte) :
    StoresTo s (memWrite s addr v) [(addr, v)] :=
  (StoresTo.refl s).memWrite hs addr v

/-- An instruction that stores a byte and writes no register. -/
theorem storesByte_of_exec {i : Instr} {s : State} (hs : s.memWf) {n : Nat} {addr : Word} {v : Byte}
    (h : exec i s = endPlain n (memWrite s addr v)) :
    ∃ u, StoresTo s u [(addr, v)] ∧ exec i s = .next (afterQuiet n s.regs u) := by
  rw [endPlain_eq, memWrite_regs] at h
  exact ⟨_, storesTo_memWrite hs addr v, h⟩

/-- An instruction that stores a byte and then writes WZ. -/
theorem storesByte_of_exec_setWZ {i : Instr} {s : State} (hs : s.memWf) {n : Nat} {wz addr : Word} {v : Byte}
    (h : exec i s = endPlain n (setWZ wz (memWrite s addr v))) :
    ∃ u, StoresTo s u [(addr, v)] ∧ exec i s = .next (afterQuiet n { s.regs with wz := wz } u) :=
  ⟨_, storesTo_memWrite hs addr v, h.trans (endPlain_setWZ_of_regs (memWrite_regs ..) n wz)⟩

/-- An instruction that latches its effective address in WZ and then stores a byte there. -/
theorem storesByte_of_exec_latchEA {i : Instr} {s : State} (hs : s.memWf) {n : Nat} {xy : XY} {d v : Byte}
    (h : exec i s = endPlain n (memWrite (latchEA xy d s) (indexedAddr xy d s.regs) v)) :
    ∃ u, StoresTo s u [(indexedAddr xy d s.regs, v)] ∧
      exec i s = .next (afterQuiet n { s.regs with wz := indexedAddr xy d s.regs } u) := by
  rw [latchEA, memWrite_setWZ] at h
  exact storesByte_of_exec_setWZ hs h

theorem exec_ldMemXydR (xy : XY) (d : Byte) (r : Reg8) (s : State) :
    exec (.ldMemXydR xy d r) s =
      endPlain 19 (memWrite (latchEA xy d s) (indexedAddr xy d s.regs) (getR8 r s.regs)) := by
  rw [← getR8_withWZ r s.regs (indexedAddr xy d s.regs)]
  rfl

/-- Settles O12: each form is one byte stored, with WZ untouched, latched before the store, or written after it. -/
theorem storeToMemory8 : Obligations.StoreToMemory8 := fun s hs =>
  ⟨fun _ => storesByte_of_exec hs rfl, fun _ => storesByte_of_exec hs rfl,
    fun xy d r => storesByte_of_exec_latchEA hs (exec_ldMemXydR xy d r s),
    fun _ _ _ => storesByte_of_exec_latchEA hs rfl,
    storesByte_of_exec_setWZ hs rfl, storesByte_of_exec_setWZ hs rfl, fun _ => storesByte_of_exec_setWZ hs rfl⟩

end Sys2Proof.Machine
end

section
/-! The obligations about 16-bit loads into registers and the exchanges: each instruction written out as the registers
it leaves, and for `EX (SP),HL` and `EX (SP),XY` the word it stores. -/

namespace Sys2Proof.Machine

/-! ### Loads into registers (R230 to R234, R238, R239) -/

/-- The end of an instruction that writes registers and then WZ. -/
theorem endPlain_setWZ_withRegs (n : Nat) (wz : Word) (g : Regs) (s : State) :
    endPlain n (setWZ wz (s.withRegs g)) = .next (afterQuiet n { g with wz := wz } s) := rfl

/-- A word from memory goes to H and L byte by byte (R232). -/
theorem setHL_memRead16 (s : State) (addr : Word) (g : Regs) :
    setHL (memRead16 s addr) g = { g with h := memRead s (addr + 1), l := memRead s addr } := by
  rw [setHL, memRead16, hiByte_joinBytes, loByte_joinBytes]

theorem exec_ldHlMemNn (nn : Word) (s : State) :
    exec (.ldHlMemNn nn) s =
      .next (afterQuiet 16 { s.regs with h := memRead s (nn + 1), l := memRead s nn, wz := nn + 1 } s) := by
  have hend : exec (.ldHlMemNn nn) s = .next (afterQuiet 16 { setHL (memRead16 s nn) s.regs with wz := nn + 1 } s) :=
    endPlain_setWZ_withRegs ..
  rw [hend, setHL_memRead16]

/-- Settles O14: each form is one register write, and the forms that read memory then write WZ. -/
theorem loadRegisters16 : Obligations.LoadRegisters16 := fun s =>
  ⟨fun _ _ => endPlain_withRegs 10 _ s, fun _ _ => endPlain_withRegs 14 _ s, fun nn => exec_ldHlMemNn nn s,
    fun _ nn => endPlain_setWZ_withRegs 20 (nn + 1) _ s, fun _ nn => endPlain_setWZ_withRegs 20 (nn + 1) _ s,
    endPlain_withRegs 6 _ s, fun _ => endPlain_withRegs 10 _ s⟩

/-! ### Exchanges (R244 to R248) -/

/-- An instruction that stores a word and then changes the registers by `f`. -/
theorem storesWord_of_exec_withRegs {i : Instr} {s : State} (hs : s.memWf) {n : Nat} {addr v : Word} (f : Regs → Regs)
    (h : exec i s = endPlain n ((memWrite16 s addr v).withRegs (f (memWrite16 s addr v).regs))) :
    ∃ u, StoresTo s u (wordStores addr v) ∧ exec i s = .next (afterQuiet n (f s.regs) u) := by
  have hstores := storesTo_memWrite16 hs addr v
  exact ⟨_, hstores, h.trans (endPlain_withRegs_of_regs hstores.regs n f)⟩

/-- The registers with the word on top of the stack of `s` in HL and in WZ (R247). -/
def takeTopHL (s : State) (g : Regs) : Regs := { setHL (popValue s) g with wz := popValue s }

/-- The registers with the word on top of the stack of `s` in IX or IY and in WZ (R248). -/
def takeTopXY (xy : XY) (s : State) (g : Regs) : Regs := { setXY xy (popValue s) g with wz := popValue s }

/-- Settles O18: between registers each form is one register write; with the stack, the old register is stored and the
word that was on top is loaded. -/
theorem exchanges : Obligations.Exchanges := fun s =>
  ⟨endPlain_withRegs 4 _ s, endPlain_withRegs 4 _ s, endPlain_withRegs 4 _ s,
    fun hs => storesWord_of_exec_withRegs hs (takeTopHL s) rfl,
    fun hs xy => storesWord_of_exec_withRegs hs (takeTopXY xy s) rfl⟩

end Sys2Proof.Machine
end

section
/-! The obligations about the block instructions: one iteration of each family as one access and the registers it leaves,
and the two ways an iteration ends. -/

namespace Sys2Proof.Machine

/-! ### The four forms of a block instruction (R260) -/

/-- The forms of one family: the two that end after one iteration, and the two that repeat, each going up or down. -/
def IsBlockForm (up down upRepeat downRepeat i : Instr) (step : Word) (repeats : Bool) : Prop :=
  i = up ∧ step = 1 ∧ repeats = false ∨ i = down ∧ step = -1 ∧ repeats = false ∨
    i = upRepeat ∧ step = 1 ∧ repeats = true ∨ i = downRepeat ∧ step = -1 ∧ repeats = true

/-- What an instruction of a family does, from what each of its four forms does: an iteration and its end, where the
forms that repeat ask `again` of the state that the iteration leaves. -/
theorem exec_of_isBlockForm {up down upRepeat downRepeat i : Instr} {step : Word} {repeats : Bool} {s : State}
    (hi : IsBlockForm up down upRepeat downRepeat i step repeats) (iterate : Word → State → State)
    (ends : Bool → State → Host.Outcome State Fault Refusal) (again : State → Bool)
    (hup : exec up s = ends false (iterate 1 s)) (hdown : exec down s = ends false (iterate (-1) s))
    (hupRepeat : exec upRepeat s = ends (again (iterate 1 s)) (iterate 1 s))
    (hdownRepeat : exec downRepeat s = ends (again (iterate (-1) s)) (iterate (-1) s)) :
    exec i s = ends (repeats && again (iterate step s)) (iterate step s) := by
  rcases hi with ⟨rfl, rfl, rfl⟩ | ⟨rfl, rfl, rfl⟩ | ⟨rfl, rfl, rfl⟩ | ⟨rfl, rfl, rfl⟩
  · exact hup
  · exact hdown
  · exact hupRepeat
  · exact hdownRepeat

/-! ### The end of an iteration (R260, R430) -/

/-- The outcome `o` of an iteration that repeats, begun in `s`: 21 T-states, the registers `g`, but that F may differ
outside `kept` where `BLOCK_REPEAT_FLAGS` leaves it free (P7, log 4). -/
def GoesBack (s : State) (kept : Byte) (g : Regs) (u : State) (o : Host.Outcome State Fault Refusal) : Prop :=
  ∃ f k, o = .next (afterFlags 21 { g with f := f } { u with freeIx := k }) ∧ f &&& kept = g.f &&& kept ∧
    (s.cfg.blockRepeatFlags = .asFinal → f = g.f ∧ k = s.freeIx)

/-- The flags after an iteration that repeats, on a state whose registers are named. -/
theorem repeatFlags_withRegs (mask : Byte) (g : Regs) (u : State) :
    ∃ f k, repeatFlags mask (u.withRegs g) = { u with freeIx := k }.withRegs { g with f := f } ∧
      f &&& ~~~mask = g.f &&& ~~~mask ∧ (u.cfg.blockRepeatFlags = .asFinal → f = g.f ∧ k = u.freeIx) := by
  rcases repeatFlags_cases mask (u.withRegs g) with ⟨-, h⟩ | ⟨hmode, h⟩
  · exact ⟨g.f, u.freeIx, h, rfl, fun _ => ⟨rfl, rfl⟩⟩
  · refine ⟨_, _, h, repeatF_keeps .anyValue mask g.f u.freeIx, fun hfinal => ?_⟩
    exact absurd (hmode.symm.trans hfinal) (by decide)

section
variable {s u : State} {o : Host.Outcome State Fault Refusal} {again : Bool} {p : Prop} {g : Regs}

/-- An iteration goes back when its end changes, after `repeatFlags`, registers other than F. -/
theorem goesBack_repeatFlags (hcfg : u.cfg = s.cfg) (hix : u.freeIx = s.freeIx) (mask : Byte) (move : Regs → Regs)
    (hmove : ∀ f, move { g with f := f } = { move g with f := f }) :
    GoesBack s (~~~mask) (move g) u
      (endFlags 21 ((repeatFlags mask (u.withRegs g)).withRegs (move (repeatFlags mask (u.withRegs g)).regs))) := by
  obtain ⟨f, k, hflags, hkept, hfinal⟩ := repeatFlags_withRegs mask g u
  have hg : move g = { move g with f := g.f } := hmove g.f
  have hf : (move g).f = g.f := by rw [hg]
  rw [hcfg, hix] at hfinal
  refine ⟨f, k, ?_, by rw [hf, hkept], by rwa [hf]⟩
  rw [hflags, State.withRegs_regs, hmove]
  rfl

/-- How an iteration of a memory block instruction ends: back to its own address while `p` holds, or on. -/
theorem memIteration (hcfg : u.cfg = s.cfg) (hix : u.freeIx = s.freeIx) (hagain : again = true ↔ p)
    (ho : o = endMemRepeat again (u.withRegs g)) :
    (p → GoesBack s 0xD7 { g with pc := g.pc - 2, wz := g.pc - 1 } u o) ∧ (¬p → o = .next (afterFlags 16 g u)) := by
  subst ho
  rcases endMemRepeat_cases again (u.withRegs g) with ⟨rfl, h⟩ | ⟨rfl, h⟩ <;> rw [h]
  · refine ⟨fun _ => ?_, fun hp => absurd (hagain.1 rfl) hp⟩
    rw [← sub_two_add_one]
    exact goesBack_repeatFlags hcfg hix memRepeatMask ({ · with pc := _, wz := _ }) fun _ => rfl
  · exact ⟨fun hp => absurd (hagain.2 hp) Bool.false_ne_true, fun _ => rfl⟩

/-- How an iteration of an I/O block instruction ends: as in memory, but WZ is kept. -/
theorem ioIteration (hcfg : u.cfg = s.cfg) (hix : u.freeIx = s.freeIx) (hagain : again = true ↔ p)
    (ho : o = endIoRepeat again (u.withRegs g)) :
    (p → GoesBack s 0xC3 { g with pc := g.pc - 2 } u o) ∧ (¬p → o = .next (afterFlags 16 g u)) := by
  subst ho
  rcases endIoRepeat_cases again (u.withRegs g) with ⟨rfl, h⟩ | ⟨rfl, h⟩ <;> rw [h]
  · exact ⟨fun _ => goesBack_repeatFlags hcfg hix ioRepeatMask ({ · with pc := _ }) fun _ => rfl,
      fun hp => absurd (hagain.1 rfl) hp⟩
  · exact ⟨fun hp => absurd (hagain.2 hp) Bool.false_ne_true, fun _ => rfl⟩

end

/-- The condition of a form that repeats while a counter is not 0. -/
theorem and_bne_zero_iff {n : Nat} (repeats : Bool) (x : BitVec n) :
    (repeats && x != 0) = true ↔ repeats = true ∧ x ≠ 0 := by
  rw [Bool.and_eq_true, bne_iff_ne]

/-! ### Block transfer (R261 to R264) -/

theorem moveBlock_eq_withRegs (step : Word) (s : State) :
    moveBlock step s =
      (memWrite s s.regs.de (memRead s s.regs.hl)).withRegs
        (setHL (s.regs.hl + step) (setDE (s.regs.de + step) (setBC (s.regs.bc - 1)
          { s.regs with f := ldBlockF (memRead s s.regs.hl) s.regs.a s.regs.f (s.regs.bc - 1) }))) := by
  rw [memWrite_eq]
  exact moveBlock_eq step s

/-- Settles O19: an iteration is one byte stored and the registers of `moveBlock`, and it ends as `memIteration` says. -/
theorem blockTransfer : Obligations.BlockTransfer := by
  intro s hs i step repeats (hi : IsBlockForm .ldi .ldd .ldir .lddr i step repeats)
  have hexec := exec_of_isBlockForm (s := s) hi moveBlock endMemRepeat (fun u => u.regs.bc != 0) rfl rfl rfl rfl
  rw [moveBlock_bc, moveBlock_eq_withRegs] at hexec
  exact ⟨_, storesTo_memWrite hs _ _,
    memIteration (memWrite_cfg ..) (memWrite_freeIx ..) (and_bne_zero_iff ..) hexec⟩

/-! ### Block search (R265 to R268) -/

/-- A byte equals A where their difference is 0. -/
theorem sub_beq_zero (a v : Byte) : (a - v == 0) = (a == v) := by
  rw [Bool.eq_iff_iff, beq_iff_eq, beq_iff_eq]
  exact sub_eq_zero

theorem compareBlock_eq_withRegs (step : Word) (s : State) :
    let g := s.regs
    let v := memRead s g.hl
    let h := decide (g.a.toNat % 16 < v.toNat % 16)
    let n := g.a - v - bitByte h
    compareBlock step s =
      s.withRegs (setHL (g.hl + step) (setBC (g.bc - 1)
        { g with
          f := packF ((g.a - v).getLsbD 7) (g.a == v) (n.getLsbD 1) h (n.getLsbD 3) (g.bc - 1 != 0) true (flagC g.f)
          wz := g.wz + step })) := by
  intro g v h n
  rw [← sub_beq_zero]
  exact compareBlock_eq step s

/-- Settles O20: an iteration is the registers of `compareBlock`, and it ends as `memIteration` says. -/
theorem blockSearch : Obligations.BlockSearch := by
  intro s i step repeats (hi : IsBlockForm .cpi .cpd .cpir .cpdr i step repeats)
  have hexec := exec_of_isBlockForm (s := s) hi compareBlock endMemRepeat
    (fun u => u.regs.bc != 0 && !flagZ u.regs.f) rfl rfl rfl rfl
  rw [compareBlock_bc, compareBlock_flagZ, compareBlock_eq_withRegs] at hexec
  refine memIteration rfl rfl ?_ hexec
  rw [Bool.and_eq_true, Bool.and_eq_true, bne_iff_ne, Bool.not_eq_true', beq_eq_false_iff_ne]

/-! ### Block input and output (R430, R434 to R437, R441 to R444) -/

theorem byte_and_seven (k : Nat) : byte k &&& 7 = byte (k % 8) := by
  have hmask : (byte k &&& 7).toNat = k % 256 % 8 := Nat.and_two_pow_sub_one_eq_mod _ 3
  have hmod : (byte (k % 8)).toNat = k % 8 % 256 := BitVec.toNat_ofNat ..
  apply BitVec.eq_of_toNat_eq
  omega

/-- The new F of the I/O block group in the terms of the statements (R430). -/
theorem ioBlockF_eq (v : Byte) (k : Nat) (b : Byte) :
    ioBlockF v k b =
      packF (b.getLsbD 7) (b == 0) (b.getLsbD 5) (decide (k > 255)) (b.getLsbD 3)
        (evenParity (byte (k % 8) ^^^ b)) (v.getLsbD 7) (decide (k > 255)) := by
  rw [← byte_and_seven, ← parity_eq_evenParity]
  rfl

theorem loByte_eq_setWidth (w : Word) : loByte w = w.setWidth 8 := rfl

theorem inBlock_eq_withRegs (step : Word) (s : State) :
    let g := s.regs
    let r := ioRead g.bc (s.clk.cycles + 9) s
    inBlock step s =
      (memWrite r.2 g.hl r.1).withRegs { setHL (g.hl + step) g with
        b := g.b - 1
        wz := g.bc + step
        f := ioBlockF r.1 (r.1.toNat + (g.c + step.setWidth 8).toNat) (g.b - 1) } := by
  intro g r
  obtain ⟨v, u, hread, h⟩ := inBlock_eq step s
  rw [h, loByte_eq_setWidth, memWrite_eq]
  simp only [r, g, hread]
  rfl

theorem memWf_advanceTo {s : State} (hs : s.memWf) (stamp : Nat) : (advanceTo stamp s).memWf := by
  simpa only [State.memWf, advanceTo_rom, advanceTo_ram, advanceTo_cfg, advanceTo_ula_fb, advanceTo_ula_fbOut]

theorem memWf_startVsync {s : State} (hs : s.memWf) : (startVsync s).memWf := by
  unfold startVsync
  split
  · obtain ⟨hrom, hram, hfb, -⟩ := hs
    exact ⟨hrom, hram, ⟨List.Pairwise.nil, by simp⟩, hfb⟩
  · exact hs

theorem memWf_ioRead {s : State} (hs : s.memWf) (port : Word) (stamp : Nat) : (ioRead port stamp s).2.memWf := by
  have hadvance := memWf_advanceTo hs stamp
  rw [ioRead_eq]
  split
  · exact hadvance
  · exact memWf_startVsync hadvance

/-- Settles O36: an iteration is one bus read, one byte stored and the registers of `inBlock`, and it ends as
`ioIteration` says. -/
theorem blockInput : Obligations.BlockInput := by
  intro s hs i step repeats (hi : IsBlockForm .ini .ind .inir .indr i step repeats)
  have hexec := exec_of_isBlockForm (s := s) hi inBlock endIoRepeat (fun u => u.regs.b != 0) rfl rfl rfl rfl
  rw [inBlock_b, inBlock_eq_withRegs, ioBlockF_eq] at hexec
  refine ⟨_, storesTo_memWrite (memWf_ioRead hs ..) _ _, ioIteration ?_ ?_ (and_bne_zero_iff ..) hexec⟩
  · rw [memWrite_cfg, ioRead_cfg]
  · rw [memWrite_freeIx, ioRead_freeIx]

/-- The line timer and the ULA use no register of the CPU. -/
theorem boundaries_withRegs (n : Nat) (g : Regs) (s : State) :
    boundaries n (s.withRegs g) = (boundaries n s).withRegs g := by
  induction n generalizing s with
  | zero => rfl
  | succ n ih => exact ih (boundaryAt s.ula.nextLine s)

theorem endVsync_withRegs (g : Regs) (s : State) : endVsync (s.withRegs g) = (endVsync s).withRegs g := by
  unfold endVsync
  rw [State.withRegs_ula]
  split <;> rfl

theorem ioWrite_withRegs (port : Word) (v : Byte) (stamp : Nat) (g : Regs) (s : State) :
    ioWrite port v stamp (s.withRegs g) = (ioWrite port v stamp s).withRegs g := by
  have hadvance : advanceTo stamp (s.withRegs g) = (advanceTo stamp s).withRegs g := boundaries_withRegs ..
  rw [ioWrite_eq, ioWrite_eq, hadvance, endVsync_withRegs]
  rfl

theorem outBlock_eq_withRegs (step : Word) (s : State) :
    let g := s.regs
    let v := memRead s g.hl
    let b := g.b - 1
    let port := joinBytes b g.c
    outBlock step s =
      (ioWrite port v (s.clk.cycles + 12) s).withRegs { setHL (g.hl + step) g with
        b := b
        wz := port + step
        f := ioBlockF v (v.toNat + (loByte (g.hl + step)).toNat) b } := by
  intro g v b port
  have hblock : outBlock step s =
      let u := ioWrite port v (s.clk.cycles + 12) (s.withRegs { g with b := b })
      u.withRegs { setHL (u.regs.hl + step) u.regs with
        wz := port + step
        f := ioBlockF v (v.toNat + (loByte (u.regs.hl + step)).toNat) u.regs.b } := rfl
  rw [hblock, ioWrite_withRegs]
  rfl

/-- Settles O37: an iteration is one bus write and the registers of `outBlock`, and it ends as `ioIteration` says. -/
theorem blockOutput : Obligations.BlockOutput := by
  intro s i step repeats (hi : IsBlockForm .outi .outd .otir .otdr i step repeats)
  have hexec := exec_of_isBlockForm (s := s) hi outBlock endIoRepeat (fun u => u.regs.b != 0) rfl rfl rfl rfl
  rw [outBlock_b, outBlock_eq_withRegs, ioBlockF_eq] at hexec
  exact ioIteration (ioWrite_cfg ..) (ioWrite_freeIx ..) (and_bne_zero_iff ..) hexec

end Sys2Proof.Machine
end

section
/-! The obligations about 8-bit arithmetic and logic: each operation once as its result and its flags in exact sums and
differences, and each instruction as one such operation on its operand. -/

namespace Sys2Proof.Machine

/-! ### Bytes as numbers -/

theorem toNat_bitByte (c : Bool) : (bitByte c).toNat = c.toNat := by
  cases c <;> rfl

/-- The sign bit of a byte (R46). -/
theorem getLsbD_seven (v : Byte) : v.getLsbD 7 = decide (128 ≤ v.toNat) := BitVec.msb_eq_decide v

theorem toInt_eq_ite (v : Byte) : v.toInt = if v.toNat < 128 then (v.toNat : Int) else v.toNat - 256 := by
  rw [BitVec.toInt_eq_toNat_cond]
  split <;> split <;> omega

theorem toNat_add_carry (a v : Byte) (c : Bool) :
    (a + v + bitByte c).toNat = (a.toNat + v.toNat + c.toNat) % 256 := by
  rw [BitVec.toNat_add, BitVec.toNat_add, toNat_bitByte]
  omega

theorem toNat_sub_borrow (a v : Byte) (c : Bool) :
    (a - v - bitByte c).toNat = (a.toNat + (512 - (v.toNat + c.toNat))) % 256 := by
  have hv := v.isLt
  have hc := c.toNat_le
  rw [BitVec.toNat_sub, BitVec.toNat_sub, toNat_bitByte]
  omega

/-- The sum of `Add8` narrowed to a byte (R281). -/
theorem byte_sum (a v : Byte) (c : Bool) : byte (a.toNat + v.toNat + c.toNat) = a + v + bitByte c := by
  apply BitVec.eq_of_toNat_eq
  rw [toNat_add_carry]
  exact BitVec.toNat_ofNat ..

/-- The difference of `Sub8` narrowed to a byte (R282). -/
theorem byte_difference (a v : Byte) (c : Bool) :
    BitVec.ofInt 8 ((a.toNat : Int) - v.toNat - c.toNat) = a - v - bitByte c := by
  have hv := v.isLt
  have hc := c.toNat_le
  apply BitVec.eq_of_toNat_eq
  rw [toNat_sub_borrow, BitVec.toNat_ofInt]
  omega

/-! ### Signed overflow (R281, R282) -/

/-- A sum overflows when both operands have one sign and the result has the other. -/
theorem signsOverflow_add (a v : Byte) (c : Bool) :
    ((a.getLsbD 7 == v.getLsbD 7) && ((a + v + bitByte c).getLsbD 7 != a.getLsbD 7)) =
      overflows8 (a.toInt + v.toInt + c.toNat) := by
  have ha := a.isLt
  have hv := v.isLt
  have hc := c.toNat_le
  rw [getLsbD_seven, getLsbD_seven, getLsbD_seven, toNat_add_carry, toInt_eq_ite, toInt_eq_ite, overflows8,
    Bool.eq_iff_iff]
  simp only [Bool.and_eq_true, beq_iff_eq, bne_iff_ne, ne_eq, decide_eq_decide, decide_eq_true_eq]
  omega

/-- A difference overflows when the operands have different signs and the result does not have the first one's. -/
theorem signsOverflow_sub (a v : Byte) (c : Bool) :
    ((a.getLsbD 7 != v.getLsbD 7) && ((a - v - bitByte c).getLsbD 7 != a.getLsbD 7)) =
      overflows8 (a.toInt - v.toInt - c.toNat) := by
  have ha := a.isLt
  have hv := v.isLt
  have hc := c.toNat_le
  rw [getLsbD_seven, getLsbD_seven, getLsbD_seven, toNat_sub_borrow, toInt_eq_ite, toInt_eq_ite, overflows8,
    Bool.eq_iff_iff]
  simp only [Bool.and_eq_true, bne_iff_ne, ne_eq, decide_eq_decide, decide_eq_true_eq]
  omega

/-! ### The eight operations (R281 to R291) -/

theorem add8_eq (a v : Byte) (c : Bool) : add8 a v c = (aluA .adc a v c, aluFlags .adc a v c) := by
  rw [add8, byte_sum, signsOverflow_add]
  rfl

theorem sub8_eq (a v : Byte) (c : Bool) : sub8 a v c = (aluA .sbc a v c, aluFlags .sbc a v c) := by
  have hhalf : ((a.toNat % 16 : Nat) - (v.toNat % 16 : Nat) - (c.toNat : Int) < 0) =
      (a.toNat % 16 < v.toNat % 16 + c.toNat) := by
    rw [eq_iff_iff]
    omega
  have hcarry : ((a.toNat : Int) - v.toNat - c.toNat < 0) = (a.toNat < v.toNat + c.toNat) := by
    rw [eq_iff_iff]
    omega
  simp only [sub8, byte_difference, signsOverflow_sub, hhalf, hcarry]
  rfl

theorem szpF_eq (v : Byte) (h n c : Bool) :
    szpF v h n c = packF (v.getLsbD 7) (v == 0) (v.getLsbD 5) h (v.getLsbD 3) (evenParity v) n c := by
  rw [szpF, parity_eq_evenParity]

/-- The new A and F of an operation, by the computation of its rule (R284 to R291). -/
def alu8 (op : AluOp) (a v : Byte) (c : Bool) : Byte × Byte :=
  match op with
  | .add => add8 a v false
  | .adc => add8 a v c
  | .sub => sub8 a v false
  | .sbc => sub8 a v c
  | .and => and8 a v
  | .xor => xor8 a v
  | .or => or8 a v
  | .cp => (a, cpF a v)

theorem aluA_adc_false (a v : Byte) : aluA .adc a v false = aluA .add a v false := BitVec.add_zero (a + v)

theorem aluA_sbc_false (a v : Byte) : aluA .sbc a v false = aluA .sub a v false := BitVec.sub_zero (a - v)

theorem alu8_eq (op : AluOp) (a v : Byte) (c : Bool) : alu8 op a v c = (aluA op a v c, aluFlags op a v c) := by
  cases op
  case add => exact (add8_eq a v false).trans (congrArg (·, _) (aluA_adc_false a v))
  case adc => exact add8_eq a v c
  case sub => exact (sub8_eq a v false).trans (congrArg (·, _) (aluA_sbc_false a v))
  case sbc => exact sub8_eq a v c
  case cp => simp [alu8, cpF, sub8_eq, aluA, aluFlags]
  all_goals exact congrArg (Prod.mk _) (szpF_eq ..)

/-! ### The five operand forms (R280) -/

/-- Each form latches its address if it has one, and writes A and F. -/
theorem exec_aluInstr (op : AluOp) (form : AluForm) (s : State) :
    exec (aluInstr op form) s =
      endFlags (aluTime form)
        (putAF (alu8 op (aluLatch form s.regs).a (aluOperand form s) (flagC (aluLatch form s.regs).f))
          (s.withRegs (aluLatch form s.regs))) := by
  cases op <;> cases form <;> rfl

/-- Settles O21: the form fixes the operand and the operation fixes A and F. -/
theorem aluResults : Obligations.AluResults := by
  intro op form s g v
  rw [exec_aluInstr, alu8_eq]
  rfl

/-! ### INC and DEC (R292 to R297) -/

theorem inc8_snd (v f : Byte) : (inc8 v f).2 = incFlags v f := by
  have hhalf : (v.toNat % 16 = 15) = (v.toNat % 16 + 1 > 15) := by
    rw [eq_iff_iff]
    omega
  have hovf : (v == 0x7F) = overflows8 (v.toInt + 1) := by
    revert v
    decide
  simp only [inc8, hhalf, hovf]
  rfl

theorem dec8_snd (v f : Byte) : (dec8 v f).2 = decFlags v f := by
  have hhalf : (v.toNat % 16 = 0) = (v.toNat % 16 < 1) := by
    rw [eq_iff_iff]
    omega
  have hovf : (v == 0x80) = overflows8 (v.toInt - 1) := by
    revert v
    decide
  simp only [dec8, hhalf, hovf]
  rfl

/-- An instruction that stores a byte and writes F (R85, R102). -/
theorem storesByte_of_exec_putMem {i : Instr} {s : State} (hs : s.memWf) {n : Nat} {addr : Word} {res : Byte × Byte}
    (h : exec i s = endFlags n (putMem addr res s)) :
    ∃ u, StoresTo s u [(addr, res.1)] ∧ exec i s = .next (afterFlags n { s.regs with f := res.2 } u) :=
  ⟨_, storesTo_memWrite hs addr res.1, h.trans (endFlags_withRegs_of_regs (memWrite_regs ..) n ({ · with f := res.2 }))⟩

/-- An instruction that latches its effective address in WZ, stores a byte there and writes F. -/
theorem storesByte_of_exec_putMem_latchEA {i : Instr} {s : State} (hs : s.memWf) {n : Nat} {xy : XY} {d : Byte}
    {res : Byte × Byte} (h : exec i s = endFlags n (putMem (indexedAddr xy d s.regs) res (latchEA xy d s))) :
    ∃ u, StoresTo s u [(indexedAddr xy d s.regs, res.1)] ∧
      exec i s = .next (afterFlags n { s.regs with wz := indexedAddr xy d s.regs, f := res.2 } u) := by
  rw [putMem, latchEA, memWrite_setWZ] at h
  exact ⟨_, storesTo_memWrite hs _ res.1,
    h.trans (endFlags_withRegs_of_regs (memWrite_regs ..) n ({ · with wz := _, f := res.2 }))⟩

/-- The end of an instruction that writes registers, F among them, and nothing else. -/
theorem endFlags_withRegs (n : Nat) (g : Regs) (s : State) : endFlags n (s.withRegs g) = .next (afterFlags n g s) := rfl

/-- Settles O22: each form is `inc8` or `dec8` of its operand, put back where the operand came from. -/
theorem incAndDec8 : Obligations.IncAndDec8 := by
  intro s g
  simp only [← inc8_snd, ← dec8_snd]
  exact ⟨fun _ => endFlags_withRegs 4 _ s, fun _ => endFlags_withRegs 4 _ s, fun _ _ => endFlags_withRegs 8 _ s,
    fun _ _ => endFlags_withRegs 8 _ s,
    fun hs => ⟨storesByte_of_exec_putMem hs (res := inc8 _ _) rfl, storesByte_of_exec_putMem hs (res := dec8 _ _) rfl⟩,
    fun hs _ _ => ⟨storesByte_of_exec_putMem_latchEA hs (res := inc8 _ _) rfl,
      storesByte_of_exec_putMem_latchEA hs (res := dec8 _ _) rfl⟩⟩

/-! ### DAA (R298) -/

/-- Does `DAA` correct the high digit? It does after a carry and where A is above 0x99; this is also its carry. -/
def daaHigh (a f : Byte) : Bool := flagC f || decide (a.toNat > 0x99)

/-- Does `DAA` correct the low digit? It does after a half carry and where the digit is above 9. -/
def daaLow (a f : Byte) : Bool := flagH f || decide (a.toNat % 16 > 9)

/-- What `DAA` adds to A, or after a subtraction takes from it. -/
def daaDiff (a f : Byte) : Byte := byte ((if daaHigh a f then 0x60 else 0) + (if daaLow a f then 0x06 else 0))

/-- The two corrections have no bit in common. -/
theorem or_corrections (high low : Bool) :
    ((if high then 0x60 else 0) ||| (if low then 0x06 else 0) : Byte) =
      byte ((if high then 0x60 else 0) + (if low then 0x06 else 0)) := by
  revert high low
  decide

theorem daa8_eq (a f : Byte) :
    let res := if flagN f then a - daaDiff a f else a + daaDiff a f
    let h := if flagN f then flagH f && decide (a.toNat % 16 < 6) else decide (a.toNat % 16 > 9)
    daa8 a f = (res, szpF res h (flagN f) (daaHigh a f)) := by
  intro res h
  rw [daa8, or_corrections]
  rfl

/-! ### The accumulator and the flags (R298 to R302) -/

theorem exec_daa (s : State) : exec .daa s = endFlags 4 (putAF (daa8 s.regs.a s.regs.f) s) := rfl

theorem exec_cpl (s : State) : exec .cpl s = endFlags 4 (putAF (cpl8 s.regs.a s.regs.f) s) := rfl

theorem exec_neg (s : State) {i : Instr} (hi : i = .neg ∨ ∃ y, i = .negMirror y) :
    exec i s = endFlags 8 (putAF (alu8 .sub 0 s.regs.a false) s) := by
  rcases hi with rfl | ⟨y, rfl⟩ <;> rfl

/-- `CPL` copies Y and X from the inverted A (R299). -/
theorem cpl8_eq (a f : Byte) :
    cpl8 a f =
      (~~~a,
        packF (flagS f) (flagZ f) (!a.getLsbD 5) true (!a.getLsbD 3) (flagPV f) true (flagC f)) := by
  simp [cpl8]

/-- Settles O23: each instruction is the end of one computation of A and F. -/
theorem accumulatorAndFlagOps : Obligations.AccumulatorAndFlagOps := by
  intro s g lo high diff res h source
  refine ⟨?_, ?_, fun i hi => ?_, endFlags_withRegs 4 _ s, endFlags_withRegs 4 _ s⟩
  · rw [exec_daa, daa8_eq, szpF_eq]
    rfl
  · rw [exec_cpl, cpl8_eq]
    rfl
  · rw [exec_neg s hi, alu8_eq]
    rfl

end Sys2Proof.Machine
end

section
/-! The obligation about decimal arithmetic: where `DAA` corrects a digit of the binary sum or difference of two decimal
bytes, and what the corrections make of it (R281, R282, R298). -/

namespace Sys2Proof.Machine

/-! ### Decimal digits -/

/-- The tens of a sum, with the carry of the units. -/
theorem tens_of_sum {c : Nat} (hc : c ≤ 1) (m n : Nat) :
    (m + n + c) / 10 = m / 10 + n / 10 + if m % 10 + n % 10 + c ≥ 10 then 1 else 0 := by
  split_ifs <;> omega

/-- The decimal difference makes up what was taken, with a borrow of 100. -/
theorem add_decimal_difference {m n c : Nat} (hn : n < 100) (hc : c ≤ 1) (hm : m < 100) :
    n + c + (100 + m - n - c) % 100 = m + if m < n + c then 100 else 0 := by
  split_ifs <;> omega

/-- The tens of a difference `t`, with the borrow of the units and the borrow of 100. -/
theorem tens_of_difference {m n c t : Nat} (hc : c ≤ 1) (ht : n + c + t = m + if m < n + c then 100 else 0) :
    n / 10 + (if m % 10 < n % 10 + c then 1 else 0) + t / 10 = m / 10 + if m < n + c then 10 else 0 := by
  split_ifs at ht ⊢ <;> omega

/-- A byte of two decimal digits is its value and 6 more for each ten. -/
theorem bcdValue_eq_some_iff (v : Byte) (n : Nat) :
    bcdValue v = some n ↔ n < 100 ∧ v.toNat = n + 6 * (n / 10) := by
  unfold bcdValue
  split <;> simp <;> omega

/-! ### Sums, differences and their corrections as numbers -/

section
variable (a v : Byte) (c : Bool)

theorem toNat_add8 : (add8 a v c).1.toNat = (a.toNat + v.toNat + c.toNat) % 256 := by
  rw [add8_eq]
  exact toNat_add_carry a v c

theorem toNat_sub8 : (sub8 a v c).1.toNat = (a.toNat + (512 - (v.toNat + c.toNat))) % 256 := by
  rw [sub8_eq]
  exact toNat_sub_borrow a v c

theorem flagN_add8 : flagN (add8 a v c).2 = false := flagN_packF ..

theorem flagH_add8 : flagH (add8 a v c).2 = decide (a.toNat % 16 + v.toNat % 16 + c.toNat > 15) := flagH_packF ..

theorem flagC_add8 : flagC (add8 a v c).2 = decide (a.toNat + v.toNat + c.toNat > 255) := flagC_packF ..

theorem flagN_sub8 : flagN (sub8 a v c).2 = true := flagN_packF ..

theorem flagH_sub8 : flagH (sub8 a v c).2 = decide (a.toNat % 16 < v.toNat % 16 + c.toNat) := by
  rw [sub8_eq]
  exact flagH_packF ..

theorem flagC_sub8 : flagC (sub8 a v c).2 = decide (a.toNat < v.toNat + c.toNat) := by
  rw [sub8_eq]
  exact flagC_packF ..

end

/-- Without a borrow a difference is no greater than what it was taken from. -/
theorem toNat_sub8_le {a v : Byte} {c : Bool} (h : v.toNat + c.toNat ≤ a.toNat) : (sub8 a v c).1.toNat ≤ a.toNat := by
  rw [toNat_sub8]
  omega

theorem toNat_daaDiff (a f : Byte) :
    (daaDiff a f).toNat = (if daaHigh a f then 96 else 0) + (if daaLow a f then 6 else 0) := by
  unfold daaDiff
  cases daaHigh a f <;> cases daaLow a f <;> rfl

theorem flagC_daa8 (a f : Byte) : flagC (daa8 a f).2 = daaHigh a f := by
  rw [daa8_eq]
  exact flagC_packF ..

theorem toNat_daa8_of_add {f : Byte} (hf : flagN f = false) (a : Byte) :
    (daa8 a f).1.toNat = (a.toNat + (daaDiff a f).toNat) % 256 := by
  simp only [daa8_eq, hf, Bool.false_eq_true, if_false, BitVec.toNat_add]

theorem toNat_daa8_of_sub {f : Byte} (hf : flagN f = true) (a : Byte) :
    (daa8 a f).1.toNat = (256 - (daaDiff a f).toNat + a.toNat) % 256 := by
  simp only [daa8_eq, hf, if_true, BitVec.toNat_sub]

/-! ### Two decimal bytes -/

section
variable {a b : Byte} {m n : Nat}

/-- After an addition the low digit is corrected exactly when the decimal digits carry. -/
theorem daaLow_add8 (ha : bcdValue a = some m) (hb : bcdValue b = some n) (c : Bool) :
    daaLow (add8 a b c).1 (add8 a b c).2 = decide (m % 10 + n % 10 + c.toNat ≥ 10) := by
  obtain ⟨hm, ha⟩ := (bcdValue_eq_some_iff a m).1 ha
  obtain ⟨hn, hb⟩ := (bcdValue_eq_some_iff b n).1 hb
  have hc := c.toNat_le
  rw [daaLow, flagH_add8, toNat_add8, ← Bool.decide_or, decide_eq_decide]
  omega

/-- After an addition the high digit is corrected exactly when the decimal sum reaches 100. -/
theorem daaHigh_add8 (ha : bcdValue a = some m) (hb : bcdValue b = some n) (c : Bool) :
    daaHigh (add8 a b c).1 (add8 a b c).2 = decide (m + n + c.toNat ≥ 100) := by
  obtain ⟨hm, ha⟩ := (bcdValue_eq_some_iff a m).1 ha
  obtain ⟨hn, hb⟩ := (bcdValue_eq_some_iff b n).1 hb
  have hc := c.toNat_le
  rw [daaHigh, flagC_add8, toNat_add8, ← Bool.decide_or, decide_eq_decide]
  omega

/-- After a subtraction the low digit is corrected exactly when the decimal digits borrow. -/
theorem daaLow_sub8 (ha : bcdValue a = some m) (hb : bcdValue b = some n) (c : Bool) :
    daaLow (sub8 a b c).1 (sub8 a b c).2 = decide (m % 10 < n % 10 + c.toNat) := by
  obtain ⟨hm, ha⟩ := (bcdValue_eq_some_iff a m).1 ha
  obtain ⟨hn, hb⟩ := (bcdValue_eq_some_iff b n).1 hb
  have hc := c.toNat_le
  rw [daaLow, flagH_sub8, toNat_sub8, ← Bool.decide_or, decide_eq_decide]
  omega

/-- Two decimal bytes compare as their decimal values do. -/
theorem lt_iff_of_bcdValue (ha : bcdValue a = some m) (hb : bcdValue b = some n) (c : Bool) :
    a.toNat < b.toNat + c.toNat ↔ m < n + c.toNat := by
  obtain ⟨-, ha⟩ := (bcdValue_eq_some_iff a m).1 ha
  obtain ⟨-, hb⟩ := (bcdValue_eq_some_iff b n).1 hb
  have hc := c.toNat_le
  rcases Nat.lt_or_ge m (n + c.toNat) with hlt | hge
  · have htens : m / 10 ≤ n / 10 := Nat.div_le_div_right (by omega)
    omega
  · have htens : n / 10 ≤ m / 10 := Nat.div_le_div_right (by omega)
    omega

/-- After a subtraction the high digit is corrected exactly when the decimal difference borrows: without a borrow the
difference is no greater than `a`, so it is at most 0x99. -/
theorem daaHigh_sub8 (ha : bcdValue a = some m) (hb : bcdValue b = some n) (c : Bool) :
    daaHigh (sub8 a b c).1 (sub8 a b c).2 = decide (m < n + c.toNat) := by
  have hborrow := lt_iff_of_bcdValue ha hb c
  obtain ⟨hm, ha⟩ := (bcdValue_eq_some_iff a m).1 ha
  rw [daaHigh, flagC_sub8, ← Bool.decide_or, decide_eq_decide, hborrow, or_iff_left_iff_imp]
  intro hhigh
  by_contra hlt
  have hle := toNat_sub8_le (not_lt.1 (mt hborrow.1 hlt))
  omega

/-- Adding 6 at each digit that carries turns the binary sum into the decimal one. -/
theorem bcdValue_daa8_add8 (ha : bcdValue a = some m) (hb : bcdValue b = some n) (c : Bool) :
    bcdValue (daa8 (add8 a b c).1 (add8 a b c).2).1 = some ((m + n + c.toNat) % 100) := by
  have hdiff := toNat_daaDiff (add8 a b c).1 (add8 a b c).2
  rw [daaLow_add8 ha hb, daaHigh_add8 ha hb] at hdiff
  simp only [decide_eq_true_eq] at hdiff
  obtain ⟨hm, ha⟩ := (bcdValue_eq_some_iff a m).1 ha
  obtain ⟨hn, hb⟩ := (bcdValue_eq_some_iff b n).1 hb
  have hc := c.toNat_le
  have hsum : a.toNat + b.toNat + c.toNat + (daaDiff (add8 a b c).1 (add8 a b c).2).toNat =
      m + n + c.toNat + 6 * ((m + n + c.toNat) / 10) + if m + n + c.toNat ≥ 100 then 96 else 0 := by
    rw [hdiff, tens_of_sum hc, ha, hb]
    split_ifs <;> omega
  rw [bcdValue_eq_some_iff, toNat_daa8_of_add (flagN_add8 ..), toNat_add8, Nat.mod_add_mod, hsum]
  have hlt : m + n + c.toNat < 200 := by omega
  generalize m + n + c.toNat = t at hlt
  split_ifs <;> omega

/-- `Sub8` and then `DAA`, from what the result makes up together with everything that was taken. -/
theorem toNat_daa8_sub8 {a b : Byte} {c : Bool} {r borrow : Nat} (hr : r < 256)
    (h : b.toNat + c.toNat + (daaDiff (sub8 a b c).1 (sub8 a b c).2).toNat + r = a.toNat + 256 * borrow) :
    (daa8 (sub8 a b c).1 (sub8 a b c).2).1.toNat = r := by
  rw [toNat_daa8_of_sub (flagN_sub8 ..), toNat_sub8]
  have hb := b.isLt
  have hc := c.toNat_le
  have hdiff := (daaDiff (sub8 a b c).1 (sub8 a b c).2).isLt
  generalize (daaDiff (sub8 a b c).1 (sub8 a b c).2).toNat = diff at h hdiff ⊢
  omega

/-- Taking 6 from each digit that borrows turns the binary difference into the decimal one. -/
theorem bcdValue_daa8_sub8 (ha : bcdValue a = some m) (hb : bcdValue b = some n) (c : Bool) :
    bcdValue (daa8 (sub8 a b c).1 (sub8 a b c).2).1 = some ((100 + m - n - c.toNat) % 100) := by
  have hdiff := toNat_daaDiff (sub8 a b c).1 (sub8 a b c).2
  rw [daaLow_sub8 ha hb, daaHigh_sub8 ha hb] at hdiff
  simp only [decide_eq_true_eq] at hdiff
  obtain ⟨hm, ha⟩ := (bcdValue_eq_some_iff a m).1 ha
  obtain ⟨hn, hb⟩ := (bcdValue_eq_some_iff b n).1 hb
  have hc := c.toNat_le
  have ht := add_decimal_difference hn hc hm
  have hlt : (100 + m - n - c.toNat) % 100 < 100 := Nat.mod_lt _ (by decide)
  rw [bcdValue_eq_some_iff]
  generalize (100 + m - n - c.toNat) % 100 = t at ht hlt ⊢
  have htens := tens_of_difference hc ht
  have hsum : b.toNat + c.toNat + (daaDiff (sub8 a b c).1 (sub8 a b c).2).toNat + (t + 6 * (t / 10)) =
      a.toNat + 256 * if m < n + c.toNat then 1 else 0 := by
    rw [hdiff, ha, hb]
    clear ha hb hdiff
    split_ifs at ht htens ⊢ <;> omega
  exact ⟨hlt, toNat_daa8_sub8 (by omega) hsum⟩

end

/-- Settles O24: `DAA` corrects each digit exactly where the decimal digits carry or borrow. -/
theorem decimalAdjustIsDecimal : Obligations.DecimalAdjustIsDecimal := by
  intro a b c m n ha hb
  refine ⟨⟨bcdValue_daa8_add8 ha hb c, ?_⟩, bcdValue_daa8_sub8 ha hb c, ?_⟩
  · exact (flagC_daa8 ..).trans (daaHigh_add8 ha hb c)
  · exact (flagC_daa8 ..).trans (daaHigh_sub8 ha hb c)

end Sys2Proof.Machine
end

section
/-! The obligation about 16-bit arithmetic: each operation once as its result and its flags in exact sums and
differences, and each instruction as one such operation on its operands. -/

namespace Sys2Proof.Machine

/-! ### Words as numbers -/

/-- A carry as a word, as the instructions that take one add or subtract it (R331, R332). -/
theorem setWidth_bitByte (c : Bool) : (bitByte c).setWidth 16 = if c then 1 else 0 := by
  cases c <;> rfl

theorem toNat_setWidth_bitByte (c : Bool) : ((bitByte c).setWidth 16).toNat = c.toNat := by
  cases c <;> rfl

/-- The sign bit of a word (R331, R332). -/
theorem getLsbD_fifteen (v : Word) : v.getLsbD 15 = decide (32768 ≤ v.toNat) := BitVec.msb_eq_decide v

theorem toInt_word_eq_ite (v : Word) : v.toInt = if v.toNat < 32768 then (v.toNat : Int) else v.toNat - 65536 := by
  rw [BitVec.toInt_eq_toNat_cond]
  split <;> split <;> omega

theorem toNat_add_carry16 (x y : Word) (c : Bool) :
    (x + y + (bitByte c).setWidth 16).toNat = (x.toNat + y.toNat + c.toNat) % 65536 := by
  rw [BitVec.toNat_add, BitVec.toNat_add, toNat_setWidth_bitByte]
  omega

theorem toNat_sub_borrow16 (x y : Word) (c : Bool) :
    (x - y - (bitByte c).setWidth 16).toNat = (x.toNat + (131072 - (y.toNat + c.toNat))) % 65536 := by
  have hy := y.isLt
  have hc := c.toNat_le
  rw [BitVec.toNat_sub, BitVec.toNat_sub, toNat_setWidth_bitByte]
  omega

/-- The exact sum narrowed to a word (R331). -/
theorem word_sum (x y : Word) (c : Bool) :
    BitVec.ofNat 16 (x.toNat + y.toNat + c.toNat) = x + y + (bitByte c).setWidth 16 := by
  apply BitVec.eq_of_toNat_eq
  rw [toNat_add_carry16]
  exact BitVec.toNat_ofNat ..

/-- The exact difference narrowed to a word (R332). -/
theorem word_difference (x y : Word) (c : Bool) :
    BitVec.ofInt 16 ((x.toNat : Int) - y.toNat - c.toNat) = x - y - (bitByte c).setWidth 16 := by
  have hy := y.isLt
  have hc := c.toNat_le
  apply BitVec.eq_of_toNat_eq
  rw [toNat_sub_borrow16, BitVec.toNat_ofInt]
  omega

/-! ### Signed overflow (R331, R332) -/

/-- A sum overflows when both operands have one sign and the result has the other. -/
theorem signsOverflow_add16 (x y : Word) (c : Bool) :
    ((x.getLsbD 15 == y.getLsbD 15) && ((x + y + (bitByte c).setWidth 16).getLsbD 15 != x.getLsbD 15)) =
      overflows16 (x.toInt + y.toInt + c.toNat) := by
  have hx := x.isLt
  have hy := y.isLt
  have hc := c.toNat_le
  rw [getLsbD_fifteen, getLsbD_fifteen, getLsbD_fifteen, toNat_add_carry16, toInt_word_eq_ite, toInt_word_eq_ite,
    overflows16, Bool.eq_iff_iff]
  simp only [Bool.and_eq_true, beq_iff_eq, bne_iff_ne, ne_eq, decide_eq_decide, decide_eq_true_eq]
  omega

/-- A difference overflows when the operands have different signs and the result does not have the first one's. -/
theorem signsOverflow_sub16 (x y : Word) (c : Bool) :
    ((x.getLsbD 15 != y.getLsbD 15) && ((x - y - (bitByte c).setWidth 16).getLsbD 15 != x.getLsbD 15)) =
      overflows16 (x.toInt - y.toInt - c.toNat) := by
  have hx := x.isLt
  have hy := y.isLt
  have hc := c.toNat_le
  rw [getLsbD_fifteen, getLsbD_fifteen, getLsbD_fifteen, toNat_sub_borrow16, toInt_word_eq_ite, toInt_word_eq_ite,
    overflows16, Bool.eq_iff_iff]
  simp only [Bool.and_eq_true, bne_iff_ne, ne_eq, decide_eq_decide, decide_eq_true_eq]
  omega

/-! ### The three operations (R330 to R333) -/

/-- A sum of bit vectors is the exact sum narrowed, and the flags of R330 are already stated in exact sums. -/
theorem add16_eq (x y : Word) (f : Byte) : add16 x y f = (x + y, addFlags16 x y f) := rfl

theorem adc16_eq (x y : Word) (c : Bool) : adc16 x y c = (x + y + if c then 1 else 0, adcFlags16 x y c) := by
  rw [← setWidth_bitByte, adc16, word_sum, signsOverflow_add16]
  rfl

theorem sbc16_eq (x y : Word) (c : Bool) : sbc16 x y c = (x - y - if c then 1 else 0, sbcFlags16 x y c) := by
  have hhalf : ((x.toNat % 0x1000 : Nat) - (y.toNat % 0x1000 : Nat) - (c.toNat : Int) < 0) =
      (x.toNat % 4096 < y.toNat % 4096 + c.toNat) := by
    rw [eq_iff_iff]
    omega
  have hcarry : ((x.toNat : Int) - y.toNat - c.toNat < 0) = (x.toNat < y.toNat + c.toNat) := by
    rw [eq_iff_iff]
    omega
  simp only [← setWidth_bitByte, sbc16, word_difference, signsOverflow_sub16, hhalf, hcarry]
  rfl

/-! ### The instructions (R330 to R337) -/

/-- An instruction that puts the result of a 16-bit operation into a register and writes WZ and F. -/
theorem writesResult16_of_exec {i : Instr} {s : State} {n : Nat} {wz v : Word} {f : Byte} {res : Word × Byte}
    (hres : res = (v, f)) (put : Word → Regs)
    (h : exec i s = endFlags n (putF res.2 (setWZ wz (s.withRegs (put res.1))))) :
    exec i s = .next (afterFlags n { put v with wz := wz, f := f } s) := by
  rw [h, hres]
  rfl

/-- Settles O25: the additions and the subtraction put the result of one operation into HL or XY, and the others are one
register write. -/
theorem arithmetic16 : Obligations.Arithmetic16 := fun s =>
  ⟨fun _ => ⟨writesResult16_of_exec (add16_eq ..) (setHL · s.regs) rfl,
      writesResult16_of_exec (adc16_eq ..) (setHL · s.regs) rfl,
      writesResult16_of_exec (sbc16_eq ..) (setHL · s.regs) rfl⟩,
    fun xy _ => writesResult16_of_exec (add16_eq ..) (setXY xy · s.regs) rfl,
    fun _ => endPlain_withRegs 6 _ s, fun _ => endPlain_withRegs 6 _ s,
    fun _ => endPlain_withRegs 10 _ s, fun _ => endPlain_withRegs 10 _ s⟩

end Sys2Proof.Machine
end

section
/-! The obligations about rotates, shifts and bits: each operation once as its result in exact arithmetic and its flags,
and each instruction as one such operation on its operand, put back where the operand came from. -/

namespace Sys2Proof.Machine

/-! ### Bits and digits of a byte as numbers -/

/-- Two bit fields that do not meet are put together by adding. -/
theorem byte_or_of_lt {i low : Nat} (hlow : low < 2 ^ i) (high : Nat) :
    byte (2 ^ i * high) ||| byte low = byte (2 ^ i * high + low) := by
  rw [byte, byte, byte, ← BitVec.ofNat_or, Nat.two_pow_add_eq_or_of_lt hlow]

theorem byte_mod (n : Nat) : byte (n % 256) = byte n := BitVec.eq_of_toNat_eq (by simp [byte])

theorem getLsbD_zero (v : Byte) : v.getLsbD 0 = decide (v.toNat % 2 = 1) := by
  rw [← BitVec.testBit_toNat, Nat.testBit_zero]

theorem toNat_getLsbD (v : Byte) (i : Nat) : (v.getLsbD i).toNat = v.toNat / 2 ^ i % 2 := by
  rw [← BitVec.testBit_toNat, Nat.toNat_testBit]

theorem shiftLeft_eq_byte (v : Byte) (k : Nat) : v <<< k = byte (2 ^ k * v.toNat) := by
  apply BitVec.eq_of_toNat_eq
  rw [BitVec.toNat_shiftLeft, Nat.shiftLeft_eq, Nat.mul_comm, byte, BitVec.toNat_ofNat]

theorem shiftRight_eq_byte (v : Byte) (k : Nat) : v >>> k = byte (v.toNat / 2 ^ k) := by
  apply BitVec.eq_of_toNat_eq
  rw [BitVec.toNat_ushiftRight, Nat.shiftRight_eq_div_pow, byte, BitVec.toNat_ofNat]
  exact (Nat.mod_eq_of_lt (Nat.lt_of_le_of_lt (Nat.div_le_self ..) v.isLt)).symm

/-! ### The eight rotates and shifts (R354) -/

/-- A shift to the left with `c` coming in at bit 0. -/
theorem shiftLeft_or_bitByte (v : Byte) (c : Bool) : (v <<< 1) ||| bitByte c = byte (2 * v.toNat + c.toNat) := by
  have hc : bitByte c = byte c.toNat := by cases c <;> rfl
  rw [shiftLeft_eq_byte, hc]
  exact byte_or_of_lt (i := 1) c.toNat_lt v.toNat

/-- A shift to the right with `c` coming in at bit 7. -/
theorem shiftRight_or_bitByte (v : Byte) (c : Bool) :
    (v >>> 1) ||| (bitByte c <<< 7) = byte (v.toNat / 2 + 128 * c.toNat) := by
  have hhalf : v.toNat / 2 < 2 ^ 7 := Nat.div_lt_of_lt_mul v.isLt
  rw [shiftRight_eq_byte, shiftLeft_eq_byte, toNat_bitByte, BitVec.or_comm, Nat.add_comm]
  exact byte_or_of_lt hhalf c.toNat

/-- The sign bit stays where it is (R360). -/
theorem and_0x80_eq_shiftLeft (v : Byte) : v &&& (0x80 : Byte) = bitByte (v.getLsbD 7) <<< 7 := by
  revert v
  decide

theorem toNat_getLsbD_seven (v : Byte) : (v.getLsbD 7).toNat = v.toNat / 128 := by
  have hv := v.isLt
  rw [toNat_getLsbD]
  omega

/-- Each operation is a shift of one place with its own bit coming in: the bit that goes out, the carry, the sign, 0 or
1. -/
theorem rot8_eq (op : RotOp) (v : Byte) (c : Bool) :
    rot8 op v c = (byte (rotValue op v.toNat c).1, (rotValue op v.toNat c).2) := by
  refine Prod.ext ?_ ?_
  · cases op
    case rlc => rw [rot8, shiftLeft_or_bitByte, toNat_getLsbD_seven, rotValue, byte_mod]
    case rl => rw [rot8, shiftLeft_or_bitByte, rotValue, byte_mod]
    case sla => exact (shiftLeft_eq_byte v 1).trans (byte_mod _).symm
    case sll => exact (shiftLeft_or_bitByte v true).trans (byte_mod _).symm
    case rrc => rw [rot8, shiftRight_or_bitByte, toNat_getLsbD]; simp [rotValue]
    case rr => exact shiftRight_or_bitByte v c
    case sra => rw [rot8, and_0x80_eq_shiftLeft, shiftRight_or_bitByte, toNat_getLsbD_seven, rotValue]
    case srl => exact shiftRight_eq_byte v 1
  · cases op
    case rlc | rl | sla | sll => exact getLsbD_seven v
    case rrc | rr | sra | srl => exact getLsbD_zero v

theorem rotF_eq (op : RotOp) (v f : Byte) : rotF op v f = (rotRes op v f, rotFlags op v f) := by
  rw [rotF, rot8_eq, szpF_eq]
  rfl

theorem rotAF_eq (op : RotOp) (a f : Byte) :
    rotAF op a f =
      (rotRes op a f,
        packF (flagS f) (flagZ f) ((rotRes op a f).getLsbD 5) false ((rotRes op a f).getLsbD 3) (flagPV f) false
          (rotValue op a.toNat (flagC f)).2) := by
  rw [rotAF, rot8_eq]
  rfl

/-! ### Bytes stored at the effective address (R131, R363) -/

theorem memWrite_latchEA (xy : XY) (d v : Byte) (addr : Word) (s : State) :
    memWrite (latchEA xy d s) addr v =
      (memWrite s addr v).withRegs { s.regs with wz := indexedAddr xy d s.regs } := by
  rw [latchEA, memWrite_setWZ, setWZ, memWrite_regs]

/-- The copying form: the register gets the byte whether or not the store was dropped. -/
theorem storeCopy_latchEA (xy : XY) (d v : Byte) (addr : Word) (r : Reg8) (s : State) :
    storeCopy addr r v (latchEA xy d s) =
      (memWrite s addr v).withRegs { setR8 r v s.regs with wz := indexedAddr xy d s.regs } := by
  rw [storeCopy, memWrite_latchEA, ← setR8_withWZ]
  rfl

/-! ### The instructions that rotate and shift (R350 to R363) -/

theorem exec_rotateA {i : Instr} {op : RotOp} (s : State)
    (hi : i = .rlca ∧ op = .rlc ∨ i = .rla ∧ op = .rl ∨ i = .rrca ∧ op = .rrc ∨ i = .rra ∧ op = .rr) :
    exec i s = endFlags 4 (putAF (rotAF op s.regs.a s.regs.f) s) := by
  rcases hi with ⟨rfl, rfl⟩ | ⟨rfl, rfl⟩ | ⟨rfl, rfl⟩ | ⟨rfl, rfl⟩ <;> rfl

theorem exec_rotInstr_reg (op : RotOp) (r : Reg8) (s : State) :
    exec (rotInstr op (.reg r)) s = endFlags 8 (putR8 r (rotF op (getR8 r s.regs) s.regs.f) s) := by
  cases op <;> rfl

theorem exec_rotInstr_memHl (op : RotOp) (s : State) :
    exec (rotInstr op .memHl) s = endFlags 15 (putMem s.regs.hl (rotF op (memRead s s.regs.hl) s.regs.f) s) := by
  cases op <;> rfl

theorem exec_rotInstr_memXyd (op : RotOp) (xy : XY) (d : Byte) (s : State) :
    exec (rotInstr op (.memXyd xy d)) s =
      endFlags 23
        (putMem (indexedAddr xy d s.regs) (rotF op (memRead s (indexedAddr xy d s.regs)) s.regs.f)
          (latchEA xy d s)) := by
  cases op <;> rfl

theorem exec_rotInstr_memXydR (op : RotOp) (xy : XY) (d : Byte) (r : Reg8) (s : State) :
    exec (rotInstr op (.memXydR xy d r)) s =
      endFlags 23
        (putF (rotF op (memRead s (indexedAddr xy d s.regs)) s.regs.f).2
          (storeCopy (indexedAddr xy d s.regs) r (rotF op (memRead s (indexedAddr xy d s.regs)) s.regs.f).1
            (latchEA xy d s))) := by
  cases op <;> rfl

/-- Settles O26: each form is one `rotF` or `rotAF` of its operand; the two indexed forms store the same byte. -/
theorem rotatesAndShifts : Obligations.RotatesAndShifts := by
  intro op s g
  refine ⟨fun i hi => ?_, fun r => ?_, fun hs => ?_, ?_⟩
  · rw [exec_rotateA s hi, rotAF_eq]
    rfl
  · rw [exec_rotInstr_reg, rotF_eq]
    rfl
  · have hexec := storesByte_of_exec_putMem hs (exec_rotInstr_memHl op s)
    rw [rotF_eq] at hexec
    exact hexec
  intro hs xy d ea v res
  refine ⟨memWrite s ea res, storesTo_memWrite hs ea res, ?_, fun r => ?_⟩
  · rw [exec_rotInstr_memXyd, rotF_eq, putMem, memWrite_latchEA]
    rfl
  · rw [exec_rotInstr_memXydR, rotF_eq, storeCopy_latchEA]
    rfl

/-! ### RLD and RRD (R364, R365) -/

theorem and_0x0F_eq_byte (v : Byte) : v &&& 0x0F = byte (v.toNat % 16) := by
  revert v
  decide

theorem and_0xF0_eq_byte (v : Byte) : v &&& 0xF0 = byte (16 * (v.toNat / 16)) := by
  revert v
  decide

/-- The low digit moved up: the high digit falls off. -/
theorem shiftLeft_four_eq_byte (v : Byte) : v <<< 4 = byte (16 * (v.toNat % 16)) := by
  revert v
  decide

/-- The high digit moved down. -/
theorem shiftRight_four_eq_byte (v : Byte) : v >>> 4 = byte (v.toNat / 16) := shiftRight_eq_byte v 4

/-- Two digits put together. -/
theorem or_eq_byte_of_digits {x y : Byte} {high low : Nat} (hx : x = byte (16 * high)) (hy : y = byte low)
    (hlow : low < 16) : x ||| y = byte (16 * high + low) := by
  rw [hx, hy]
  exact byte_or_of_lt (i := 4) hlow high

theorem high_digit_lt (v : Byte) : v.toNat / 16 < 16 := Nat.div_lt_of_lt_mul v.isLt

theorem low_digit_lt (v : Byte) : v.toNat % 16 < 16 := Nat.mod_lt _ (by decide)

theorem rld8_eq (a m : Byte) :
    rld8 a m =
      (byte (16 * (m.toNat % 16) + a.toNat % 16), byte (16 * (a.toNat / 16) + m.toNat / 16)) :=
  Prod.ext (or_eq_byte_of_digits (shiftLeft_four_eq_byte m) (and_0x0F_eq_byte a) (low_digit_lt a))
    (or_eq_byte_of_digits (and_0xF0_eq_byte a) (shiftRight_four_eq_byte m) (high_digit_lt m))

theorem rrd8_eq (a m : Byte) :
    rrd8 a m =
      (byte (16 * (a.toNat % 16) + m.toNat / 16), byte (16 * (a.toNat / 16) + m.toNat % 16)) :=
  Prod.ext (or_eq_byte_of_digits (shiftLeft_four_eq_byte a) (shiftRight_four_eq_byte m) (high_digit_lt m))
    (or_eq_byte_of_digits (and_0xF0_eq_byte a) (and_0x0F_eq_byte m) (low_digit_lt m))

/-- An instruction that stores one byte at HL and turns digits into A; `res` is the new byte and the new A. -/
theorem storesByte_of_exec_digits {i : Instr} {s : State} (hs : s.memWf) {res : Byte × Byte}
    (h : exec i s = endFlags 18 (setWZ (s.regs.hl + 1)
      (putAF (res.2, inF res.2 s.regs.f) (memWrite s s.regs.hl res.1)))) :
    ∃ u, StoresTo s u [(s.regs.hl, res.1)] ∧
      exec i s = .next (afterFlags 18
        { s.regs with a := res.2, f := readFlags res.2 s.regs.f, wz := s.regs.hl + 1 } u) := by
  rw [inF_eq_readFlags] at h
  exact ⟨_, storesTo_memWrite hs _ res.1,
    h.trans (endFlags_withRegs_of_regs (memWrite_regs ..) 18 ({ · with a := res.2, f := _, wz := _ }))⟩

/-- Settles O27: the digits of A and of the byte at HL, put together in the other order. -/
theorem digitRotates : Obligations.DigitRotates := by
  intro s hs
  have hrld := storesByte_of_exec_digits hs (i := .rld) (res := rld8 s.regs.a (memRead s s.regs.hl)) rfl
  have hrrd := storesByte_of_exec_digits hs (i := .rrd) (res := rrd8 s.regs.a (memRead s s.regs.hl)) rfl
  rw [rld8_eq] at hrld
  rw [rrd8_eq] at hrrd
  exact ⟨hrld, hrrd⟩

/-! ### BIT (R366 to R368) -/

theorem bitF_eq_bitFlags (bn : Fin 8) (v yx f : Byte) : bitF bn v yx f = bitFlags bn v yx f := by
  have hseven : decide (bn.val = 7) = (bn == 7) := by
    revert bn
    decide
  have hbit : v.getLsbD bn.val = (v.toNat / 2 ^ bn.val % 2 == 1) := by
    rw [← BitVec.testBit_toNat, Nat.testBit_eq_decide_div_mod_eq]
    rfl
  rw [bitF, hbit, hseven, Bool.and_comm]
  rfl

/-- The mirrors name a register and do not use it. -/
theorem exec_bitBMemXyd {i : Instr} {bn : Fin 8} {xy : XY} {d : Byte} (s : State)
    (hi : i = .bitBMemXyd bn xy d ∨ ∃ r, i = .bitBMemXydMirror bn xy d r) :
    exec i s =
      endFlags 20 (putF (bitF bn (memRead s (indexedAddr xy d s.regs)) (hiByte (indexedAddr xy d s.regs)) s.regs.f)
        (latchEA xy d s)) := by
  rcases hi with rfl | ⟨r, rfl⟩ <;> rfl

/-- Settles O28: each form writes F once, the indexed ones after their address is latched. -/
theorem bitTests : Obligations.BitTests := by
  intro s bn g
  simp only [← bitF_eq_bitFlags]
  exact ⟨fun _ => endFlags_withRegs 8 _ s, endFlags_withRegs 12 _ s, fun _ _ _ hi => exec_bitBMemXyd s hi⟩

/-! ### SET and RES (R363, R369, R370) -/

/-- The byte `v` with bit `bn` made `on`, in plain arithmetic (R369, R370). -/
def assignBit (bn : Fin 8) (on : Bool) (v : Byte) : Byte :=
  if v.getLsbD bn.val = on then v else if on then v + byte (2 ^ bn.val) else v - byte (2 ^ bn.val)

theorem bitMask_eq_byte (bn : Fin 8) : bitMask bn = byte (2 ^ bn.val) := by
  revert bn
  decide

/-- Masking a byte with one bit leaves that bit or nothing. -/
theorem and_bitMask (bn : Fin 8) (v : Byte) : v &&& bitMask bn = if v.getLsbD bn.val then bitMask bn else 0 :=
  BitVec.and_twoPow v bn.val

theorem or_and_absorb (v m : Byte) : v ||| (v &&& m) = v := by
  ext i hi
  grind

/-- A byte is the sum of what the mask clears and what it keeps. -/
theorem and_not_add_and (v m : Byte) : (v &&& ~~~m) + (v &&& m) = v := by
  have hdisjoint : (v &&& ~~~m) &&& (v &&& m) = 0 := by
    ext i hi
    grind
  have hparts : (v &&& ~~~m) ||| (v &&& m) = v := by
    ext i hi
    grind
  exact (BitVec.add_eq_or_of_and_eq_zero _ _ hdisjoint).trans hparts

theorem setBit_eq_assignBit (bn : Fin 8) (v : Byte) : setBit bn v = assignBit bn true v := by
  have hin := and_bitMask bn v
  have habsorb := or_and_absorb v (bitMask bn)
  rw [setBit, assignBit, ← bitMask_eq_byte]
  cases hbit : v.getLsbD bn.val <;> rw [hbit] at hin
  · exact (BitVec.add_eq_or_of_and_eq_zero _ _ hin).symm
  · rw [hin] at habsorb
    exact habsorb

theorem resetBit_eq_assignBit (bn : Fin 8) (v : Byte) : resetBit bn v = assignBit bn false v := by
  have hsum := and_not_add_and v (bitMask bn)
  rw [and_bitMask] at hsum
  rw [resetBit, assignBit, ← bitMask_eq_byte]
  cases hbit : v.getLsbD bn.val <;> rw [hbit] at hsum
  · exact (BitVec.add_zero _).symm.trans hsum
  · exact BitVec.eq_sub_iff_add_eq.mpr hsum

/-- An instruction that stores a byte at its effective address, and the forms that also copy the byte to a register. -/
theorem storesByte_of_exec_storeCopy {i : Instr} {copy : Reg8 → Instr} {s : State} (hs : s.memWf) {n : Nat} {xy : XY}
    {d v : Byte} (h : exec i s = endPlain n (memWrite (latchEA xy d s) (indexedAddr xy d s.regs) v))
    (hcopy : ∀ r, exec (copy r) s = endPlain n (storeCopy (indexedAddr xy d s.regs) r v (latchEA xy d s))) :
    ∃ u, StoresTo s u [(indexedAddr xy d s.regs, v)] ∧
      exec i s = .next (afterQuiet n { s.regs with wz := indexedAddr xy d s.regs } u) ∧
      ∀ r, exec (copy r) s = .next (afterQuiet n { setR8 r v s.regs with wz := indexedAddr xy d s.regs } u) := by
  simp only [memWrite_latchEA] at h
  simp only [storeCopy_latchEA] at hcopy
  exact ⟨_, storesTo_memWrite hs _ v, h, hcopy⟩

/-- Settles O29: each form is `setBit` or `resetBit` of its operand; an indexed form and its copying form store the same
byte. -/
theorem setAndResetBits : Obligations.SetAndResetBits := by
  intro s bn g put
  have hset : setBit bn = put true := funext (setBit_eq_assignBit bn)
  have hreset : resetBit bn = put false := funext (resetBit_eq_assignBit bn)
  rw [← hset, ← hreset]
  exact ⟨fun _ => ⟨endPlain_withRegs 8 _ s, endPlain_withRegs 8 _ s⟩,
    fun hs => ⟨storesByte_of_exec hs rfl, storesByte_of_exec hs rfl⟩,
    fun hs _ _ => ⟨storesByte_of_exec_storeCopy hs rfl fun _ => rfl,
      storesByte_of_exec_storeCopy hs rfl fun _ => rfl⟩⟩

end Sys2Proof.Machine
end

section
/-! The obligations about returns: each return written out once as the registers and flip-flops it leaves, and an NMI
acceptance as the push that RETN takes back. -/

namespace Sys2Proof.Machine

/-! ### Returns (R399 to R402) -/

/-- Where a return goes, and what it leaves unchanged. -/
theorem endPlain_popPC (n : Nat) (s : State) :
    endPlain n (popPC s) =
      .next (afterQuiet n { s.regs with sp := s.regs.sp + 2, pc := popValue s, wz := popValue s } s) := rfl

theorem exec_retCc_of_taken {cc : Cond} {s : State} (h : condHolds cc s.regs.f = true) :
    exec (.retCc cc) s = endPlain 11 (popPC s) :=
  if_pos h

theorem exec_retCc_of_not_taken {cc : Cond} {s : State} (h : condHolds cc s.regs.f = false) :
    exec (.retCc cc) s = .next (afterQuiet 5 s.regs s) :=
  if_neg (ne_true_of_eq_false h)

/-- A return from an interrupt is a return that also copies IFF2 to IFF1. -/
theorem endPlain_returnFromInterrupt (n : Nat) (s : State) :
    endPlain n (returnFromInterrupt s) =
      .next (afterQuiet n { s.regs with sp := s.regs.sp + 2, pc := popValue s, wz := popValue s }
        { s with ctl := { s.ctl with iff1 := s.ctl.iff2 } }) := by
  rw [returnFromInterrupt_eq]
  rfl

theorem exec_retn (s : State) :
    exec .retn s =
      .next (afterQuiet 14 { s.regs with sp := s.regs.sp + 2, pc := popValue s, wz := popValue s }
        { s with ctl := { s.ctl with iff1 := s.ctl.iff2 } }) :=
  endPlain_returnFromInterrupt 14 s

/-- `RETI` and the mirrors have the meaning of `RETN` (R401, R402). -/
theorem exec_eq_exec_retn {i : Instr} (hi : i = .reti ∨ i = .retn ∨ ∃ y, i = .retnMirror y) (s : State) :
    exec i s = exec .retn s := by
  rcases hi with rfl | rfl | ⟨y, rfl⟩ <;> rfl

/-- Settles O32: the word on the stack is `popValue`; every return from an interrupt is `RETN`. -/
theorem returns : Obligations.Returns := fun s =>
  ⟨exec_ret s,
    fun _ => ⟨fun h => (exec_retCc_of_taken h).trans (endPlain_popPC 11 s), exec_retCc_of_not_taken⟩,
    fun _ hi => (exec_eq_exec_retn hi s).trans (exec_retn s)⟩

/-! ### RETN after an NMI acceptance (R402, R507, R513) -/

/-- The M1-type cycle of an interrupt acceptance, which ends a halt; the return address is pushed after it (R506). -/
def acceptanceCycle (s : State) : State := refreshM1 { s with ctl := { s.ctl with halted := false } }

/-- With an entry that does not depend on memory, an acceptance is its first cycle and then a call of the entry. -/
theorem next_enterInterrupt_const (target : Word) (n : Nat) (s : State) :
    .next (enterInterrupt (fun _ => target) n s) =
      endPlain n (jumpLatched target (push16 s.regs.pc (acceptanceCycle s))) := rfl

@[simp] theorem pushBytes_ctl (v : Word) (s : State) : (pushBytes v s).ctl = s.ctl := by
  simp only [pushBytes, memWrite_ctl]

/-- An NMI acceptance as what it pushes and the registers it leaves. -/
theorem acceptNmi_eq_pushBytes (s : State) :
    acceptNmi s =
      .next (afterQuiet 11
        { s.regs with r := bumpR s.regs.r, sp := s.regs.sp - 2, pc := 0x0066, wz := 0x0066 }
        (pushBytes s.regs.pc (acceptanceCycle (nmiStart s)))) := by
  rw [acceptNmi_eq, next_enterInterrupt_const, endPlain_jumpLatched_push16]
  rfl

/-- Settles O47: the acceptance pushes PC and keeps IFF2, so RETN pops that PC, undoes the move of SP and copies that
IFF2. -/
theorem nmiThenRetn : Obligations.NmiThenRetn := by
  intro s t hs hhi hlo ht
  rw [acceptNmi_eq_pushBytes] at ht
  injection ht with ht
  subst ht
  have hcycle : (acceptanceCycle (nmiStart s)).memWf := hs
  have hiff2 : (pushBytes s.regs.pc (acceptanceCycle (nmiStart s))).ctl.iff2 = s.ctl.iff2 := by
    rw [pushBytes_ctl]
    rfl
  exact ⟨_, exec_retn _, popValue_after_pushBytes hcycle hhi hlo 11 rfl s.regs.pc, BitVec.sub_add_cancel .., hiff2,
    hiff2⟩

end Sys2Proof.Machine
end

section
/-! The obligations about CPU control: the control instructions, each a change of the control bits that ends quietly, and
an ignored index prefix. -/

namespace Sys2Proof.Machine

/-! ### An ignored index prefix (R468) -/

/-- Case a: the prefix is a step of its own. -/
theorem exec_indexPrefixIgnored_of_index {o : Byte} (ho : o = 0xDD ∨ o = 0xFD) (xy : XY) (s : State) :
    exec (.indexPrefixIgnored xy o) s =
      .next (afterQuiet 4 s.regs { s with ctl := { s.ctl with prefixBlock := true } }) :=
  (if_pos ho).trans (endPlain_eq 4 _)

/-- The 4 T-states of an ignored prefix change no memory byte. -/
theorem memRead_afterQuiet (n : Nat) (g : Regs) (s : State) (addr : Word) :
    memRead (afterQuiet n g s) addr = memRead s addr :=
  memRead_congr rfl rfl rfl addr

theorem m1Byte_afterQuiet (n : Nat) (g : Regs) (s : State) (addr : Word) :
    m1Byte (afterQuiet n g s) addr = m1Byte s addr :=
  congrArg (videoByte addr) (memRead_afterQuiet n g s addr)

/-- What the bytes after an ignored prefix decode to, `o` the first of them, which is at PC. -/
def decodeAfterIgnored (o : Byte) (s : State) : Decoded :=
  let pc := s.regs.pc
  let b1 := if isPrefixByte o then m1Byte s (pc + 1) else memRead s (pc + 1)
  decodeBytes o b1 (memRead s (pc + 2)) (memRead s (pc + 3))

theorem decodeAfterIgnored_afterQuiet (o : Byte) (n : Nat) (s : State) :
    decodeAfterIgnored o (afterQuiet n s.regs s) = decodeAfterIgnored o s := by
  simp only [decodeAfterIgnored, memRead_afterQuiet, m1Byte_afterQuiet]
  rfl

theorem isPrefixRow_decodeAfterIgnored {o : Byte} (ho : ¬(o = 0xDD ∨ o = 0xFD)) (s : State) :
    isPrefixRow (decodeAfterIgnored o s).instr = false :=
  isPrefixRow_decodeBytes ho ..

/-- Cases b and c: the instruction that follows, fetched and run 4 T-states later. -/
theorem exec_indexPrefixIgnored_of_not_index {o : Byte} (ho : ¬(o = 0xDD ∨ o = 0xFD)) (xy : XY) (s : State) :
    exec (.indexPrefixIgnored xy o) s =
      exec (decodeAfterIgnored o s).instr (fetchDecoded (decodeAfterIgnored o s) (afterQuiet 4 s.regs s)) := by
  have hexec : exec (.indexPrefixIgnored xy o) s =
      execDecoded (decodeAfterIgnored o (afterQuiet 4 s.regs s)).instr
        (fetchDecoded (decodeAfterIgnored o (afterQuiet 4 s.regs s)) (afterQuiet 4 s.regs s)) :=
    if_neg ho
  rw [hexec, decodeAfterIgnored_afterQuiet]
  exact execDecoded_eq_exec _ _ (isPrefixRow_decodeAfterIgnored ho s)

/-- Settles O41: the 4 T-states of the prefix change none of the bytes the next instruction is decoded from. -/
theorem ignoredIndexPrefix : Obligations.IgnoredIndexPrefix := by
  intro s xy o
  refine ⟨(exec_indexPrefixIgnored_of_index · xy s), fun ho => ?_⟩
  obtain ⟨t, ht⟩ := exec_indexPrefixIgnored_next xy o s
  exact ⟨t, ht, (exec_indexPrefixIgnored_of_not_index ho xy s).symm.trans ht⟩

/-! ### The control instructions (R460 to R467) -/

/-- `IM m` and its mirrors (R464 to R466). -/
theorem exec_im {i : Instr} {m : IntMode} (s : State)
    (hi : i = .im0 ∧ m = .im0 ∨ i = .im0Mirror4E ∧ m = .im0 ∨ i = .im0Mirror66 ∧ m = .im0 ∨
      i = .im0Mirror6E ∧ m = .im0 ∨ i = .im1 ∧ m = .im1 ∨ i = .im1Mirror ∧ m = .im1 ∨
      i = .im2 ∧ m = .im2 ∨ i = .im2Mirror ∧ m = .im2) :
    exec i s = endPlain 8 (setIM m s) := by
  rcases hi with ⟨rfl, rfl⟩ | ⟨rfl, rfl⟩ | ⟨rfl, rfl⟩ | ⟨rfl, rfl⟩ | ⟨rfl, rfl⟩ | ⟨rfl, rfl⟩ | ⟨rfl, rfl⟩ | ⟨rfl, rfl⟩ <;>
    rfl

/-- An undefined ED opcode only spends its time (R467). -/
theorem exec_nopEd {i : Instr} (s : State)
    (hi : (∃ x, i = .nopEd00 x) ∨ (∃ x, i = .nopEd77 x) ∨ (∃ x, i = .nopEd80 x) ∨ (∃ x y, i = .nopEdA4 x y) ∨
      (∃ x y, i = .nopEdAC x y) ∨ ∃ x, i = .nopEdC0 x) :
    exec i s = endPlain 8 s := by
  rcases hi with ⟨x, rfl⟩ | ⟨x, rfl⟩ | ⟨x, rfl⟩ | ⟨x, y, rfl⟩ | ⟨x, y, rfl⟩ | ⟨x, rfl⟩ <;> rfl

/-- Settles O33: each is an `endPlain` of the state with its control bits written. -/
theorem cpuControl : Obligations.CpuControl := fun s =>
  ⟨endPlain_eq 4 s, endPlain_eq 4 _, endPlain_eq 4 _, endPlain_eq 4 _,
    fun _ m hi => (exec_im s hi).trans (endPlain_eq 8 (setIM m s)),
    fun _ hi => (exec_nopEd s hi).trans (endPlain_eq 8 s)⟩

end Sys2Proof.Machine
end

section
/-! The obligations about interrupts and the end of a step: an acceptance as the push it makes and the registers and control
bits it leaves, the one stop of the machine, and the level of /INT. -/

namespace Sys2Proof.Machine

/-! ### What an acceptance does (R506) -/

theorem pushBytes_eq (v : Word) (s : State) :
    pushBytes v s =
      { s with
        ram := storeRam s.cfg (storeRam s.cfg s.ram (s.regs.sp - 1) (hiByte v)) (s.regs.sp - 2) (loByte v) } := by
  simp only [pushBytes, memWrite_eq]

/-- Where an acceptance computes its entry: PC is pushed (R506, R510). -/
def afterPush (s : State) : State := push16 s.regs.pc (acceptanceCycle s)

theorem enterInterrupt_eq_pushBytes {entry : State → Word} {target : Word} {s : State} (h : entry (afterPush s) = target)
    (n : Nat) :
    enterInterrupt entry n s =
      afterQuiet n { s.regs with r := bumpR s.regs.r, sp := s.regs.sp - 2, pc := target, wz := target }
        (pushBytes s.regs.pc (acceptanceCycle s)) := by
  subst h
  have hpush : afterPush s = (pushBytes s.regs.pc (acceptanceCycle s)).withRegs
      { (acceptanceCycle s).regs with sp := s.regs.sp - 2 } := push16_eq_pushBytes ..
  have henter : enterInterrupt entry n s =
      tick n (setQ 0x00 ((afterPush s).withRegs
        { (afterPush s).regs with pc := entry (afterPush s), wz := entry (afterPush s) })) := rfl
  rw [henter]
  generalize entry (afterPush s) = target
  rw [hpush]
  rfl

/-! ### NMI acceptance (R507) -/

theorem step_of_nmi {s : State} (hk : stepKind s = .nmi) : step s = finishOutcome (acceptNmi (beginStep s)) := by
  unfold step
  simp only [hk]

/-- Settles O42: the acceptance of `acceptNmi_eq_pushBytes` after the start of the step. -/
theorem nmiAcceptance : Obligations.NmiAcceptance := by
  intro s hs hnmi hblock g
  have hk : stepKind s = .nmi := (stepKind_eq_nmi_iff s).2 ⟨hnmi, hblock⟩
  refine ⟨pushBytes g.pc s, storesTo_pushBytes hs g.pc, ?_⟩
  rw [step_of_nmi hk, acceptNmi_eq_pushBytes, pushBytes_eq, pushBytes_eq]
  rfl

/-! ### The acknowledge event (R520) -/

/-- The line timer reads of the state only the ULA and `nmi_pending`. -/
theorem boundaries_congr (n : Nat) {s u : State} (hula : u.ula = s.ula)
    (hnmi : u.ctl.nmiPending = s.ctl.nmiPending) :
    boundaries n u =
      { u with ula := (boundaries n s).ula, ctl := { u.ctl with nmiPending := (boundaries n s).ctl.nmiPending } } := by
  induction n generalizing s u with
  | zero =>
    simp only [boundaries, ← hula, ← hnmi]
  | succ n ih =>
    have hula' : (boundaryAt u.ula.nextLine u).ula = (boundaryAt s.ula.nextLine s).ula := by
      simp only [boundaryAt, hula]
    have hnmi' : (boundaryAt u.ula.nextLine u).ctl.nmiPending = (boundaryAt s.ula.nextLine s).ctl.nmiPending := by
      simp only [boundaryAt, hula, hnmi]
    exact ih hula' hnmi'

theorem advanceTo_congr (n : Nat) {s u : State} (hula : u.ula = s.ula) (hnmi : u.ctl.nmiPending = s.ctl.nmiPending) :
    advanceTo n u =
      { u with ula := (advanceTo n s).ula, ctl := { u.ctl with nmiPending := (advanceTo n s).ctl.nmiPending } } := by
  unfold advanceTo
  rw [hula]
  exact boundaries_congr _ hula hnmi

/-- What the acknowledge event leaves of the line timer: restarted where `HSYNC_SYNC_ON_INTACK` asks for it. -/
def acknowledgedLine (s : State) : State :=
  if s.cfg.hsyncSyncOnIntAck then boundaryAt s.clk.cycles (advanceTo s.clk.cycles s) else s

theorem acknowledgedLine_of_sync {s : State} (h : s.cfg.hsyncSyncOnIntAck = true) :
    acknowledgedLine s = boundaryAt s.clk.cycles (advanceTo s.clk.cycles s) :=
  if_pos h

theorem acknowledgedLine_of_no_sync {s : State} (h : s.cfg.hsyncSyncOnIntAck = false) : acknowledgedLine s = s :=
  if_neg (ne_true_of_eq_false h)

theorem memWf_acknowledgedLine {s : State} (hs : s.memWf) : (acknowledgedLine s).memWf := by
  unfold acknowledgedLine
  split
  · exact memWf_advanceTo hs s.clk.cycles
  · exact hs

theorem acknowledgedLine_congr {s u : State} (hcfg : u.cfg = s.cfg) (hcycles : u.clk.cycles = s.clk.cycles)
    (hula : u.ula = s.ula) (hnmi : u.ctl.nmiPending = s.ctl.nmiPending) :
    acknowledgedLine u =
      { u with
        ula := (acknowledgedLine s).ula
        ctl := { u.ctl with nmiPending := (acknowledgedLine s).ctl.nmiPending } } := by
  cases h : s.cfg.hsyncSyncOnIntAck
  · rw [acknowledgedLine_of_no_sync h, acknowledgedLine_of_no_sync (hcfg ▸ h)]
    simp only [← hula, ← hnmi]
  · rw [acknowledgedLine_of_sync h, acknowledgedLine_of_sync (hcfg ▸ h), hcycles, advanceTo_congr _ hula hnmi]
    rfl

/-- The line timer restarts as it would have from the state before the step. -/
theorem acknowledge_beginStep (la : Bool) (s : State) :
    acknowledge la (beginStep s) =
      { maskableStart la (beginStep s) with
        ula := (acknowledgedLine s).ula
        ctl := { (maskableStart la (beginStep s)).ctl with nmiPending := (acknowledgedLine s).ctl.nmiPending } } := by
  rw [acknowledge_eq]
  exact acknowledgedLine_congr (s := s) (u := maskableStart la (beginStep s)) rfl rfl rfl rfl

/-- The acknowledge event changes the ULA and `nmi_pending` only. -/
theorem acknowledgedLine_frame (s : State) :
    acknowledgedLine s =
      { s with
        ula := (acknowledgedLine s).ula
        ctl := { s.ctl with nmiPending := (acknowledgedLine s).ctl.nmiPending } } :=
  acknowledgedLine_congr (s := s) rfl rfl rfl rfl

theorem acknowledgedLine_regs (s : State) : (acknowledgedLine s).regs = s.regs := by rw [acknowledgedLine_frame]

/-! ### Maskable acceptance (R508 to R510) -/

theorem acceptMaskable_of_im0_rst {s : State} (him : s.ctl.im = .im0) (hrst : s.cfg.intAckData &&& 0xC7 = 0xC7)
    (la : Bool) :
    acceptMaskable la s =
      .next (enterInterrupt (fun _ => (s.cfg.intAckData &&& 0x38).setWidth 16) 13 (acknowledge la s)) := by
  simp only [acceptMaskable, him, hrst, if_true]

theorem acceptMaskable_of_im0_not_rst {s : State} (him : s.ctl.im = .im0) (hrst : s.cfg.intAckData &&& 0xC7 ≠ 0xC7)
    (la : Bool) : acceptMaskable la s = .refused (.im0DataNotRst s.cfg.intAckData) := by
  simp only [acceptMaskable, him, hrst, if_false]

theorem acceptMaskable_of_im1 {s : State} (him : s.ctl.im = .im1) (la : Bool) :
    acceptMaskable la s = .next (enterInterrupt (fun _ => 0x0038) 13 (acknowledge la s)) := by
  simp only [acceptMaskable, him]

theorem acceptMaskable_of_im2 {s : State} (him : s.ctl.im = .im2) (la : Bool) :
    acceptMaskable la s =
      .next (enterInterrupt (fun t => memRead16 t (joinBytes t.regs.i s.cfg.intAckData)) 19 (acknowledge la s)) := by
  simp only [acceptMaskable, him]

theorem step_of_maskable {s : State} (hk : stepKind s = .maskable) :
    step s = finishOutcome (acceptMaskable s.ctl.ldair (beginStep s)) := by
  unfold step
  simp only [hk]

/-- The stack of a maskable acceptance, with the line timer where the acknowledge event left it. -/
def maskablePushed (s : State) : State := pushBytes s.regs.pc (acknowledgedLine s)

theorem storesTo_maskablePushed {s : State} (hs : s.memWf) :
    StoresTo (acknowledgedLine s) (maskablePushed s) (pushStores s.regs.sp s.regs.pc) := by
  have hstores := storesTo_pushBytes (memWf_acknowledgedLine hs) s.regs.pc
  rwa [acknowledgedLine_regs] at hstores

/-- A maskable acceptance of `n` T-states that goes to `target`, before the end of its step (R508). -/
def maskableEntered (s : State) (target : Word) (n : Nat) : State :=
  { maskablePushed s with
    regs := { s.regs with
      f := if s.ctl.ldair then s.regs.f &&& 0xFB else s.regs.f
      sp := s.regs.sp - 2, pc := target, wz := target, r := bumpR s.regs.r }
    ctl := { (acknowledgedLine s).ctl with
      intReq := false, halted := false, iff1 := false, iff2 := false, q := 0
      eiBlock := false, prefixBlock := false, ldair := false }
    clk := { cycles := s.clk.cycles + n, stepT := n, stepM1 := 1, stepR := s.regs.r }
    busOut := none }

theorem enterInterrupt_acknowledge {entry : State → Word} {target : Word} {s : State}
    (h : entry (afterPush (acknowledge s.ctl.ldair (beginStep s))) = target) (n : Nat) :
    enterInterrupt entry n (acknowledge s.ctl.ldair (beginStep s)) = maskableEntered s target n := by
  rw [enterInterrupt_eq_pushBytes h, acknowledge_beginStep]
  unfold maskableEntered maskablePushed
  rw [acknowledgedLine_frame, pushBytes_eq, pushBytes_eq]
  simp only [afterQuiet, after, acceptanceCycle, refreshM1, maskableStart, beginStep_clk, Nat.zero_add]
  rfl

/-- In mode 2 the table is read from the memory after the push, with the I of before the acceptance (R510). -/
theorem vectorAfterPush (data : Byte) (s : State) :
    let t := afterPush (acknowledge s.ctl.ldair (beginStep s))
    memRead16 t (joinBytes t.regs.i data) = memRead16 (maskablePushed s) (joinBytes s.regs.i data) := by
  intro t
  have hi : t.regs.i = s.regs.i := by
    simp only [t, afterPush, push16_regs, acknowledge_beginStep]
    rfl
  have hmem : ∀ addr, memRead t addr = memRead (maskablePushed s) addr := by
    intro addr
    apply memRead_congr <;>
    · simp only [t, afterPush, maskablePushed, acknowledge_beginStep, push16_eq, pushBytes_eq]
      rw [acknowledgedLine_frame]
      rfl
  simp only [memRead16, hi, hmem]

/-- Settles O43: in each mode the acceptance is `maskableEntered` at the entry of that mode. -/
theorem maskableAcceptance : Obligations.MaskableAcceptance := by
  intro s hs hk g data v
  have hstep : ∀ {entry target n},
      acceptMaskable s.ctl.ldair (beginStep s) =
        .next (enterInterrupt entry n (acknowledge s.ctl.ldair (beginStep s))) →
      entry (afterPush (acknowledge s.ctl.ldair (beginStep s))) = target →
      step s = .next (finishStep (maskableEntered s target n)) := by
    intro entry target n haccept htarget
    rw [step_of_maskable hk, haccept, enterInterrupt_acknowledge htarget]
    rfl
  refine ⟨maskablePushed s, storesTo_maskablePushed hs, ?_, ?_, ?_⟩
  · exact fun him => hstep (acceptMaskable_of_im1 (s := beginStep s) him _) rfl
  · exact fun him hrst => hstep (acceptMaskable_of_im0_rst (s := beginStep s) him hrst _) rfl
  · exact fun him => hstep (acceptMaskable_of_im2 (s := beginStep s) him _) (vectorAfterPush s.cfg.intAckData s)

/-! ### The one stop of the machine (R500, R509, R530) -/

theorem stopsAtIm0_iff (s : State) :
    stopsAtIm0 s = true ↔ stepKind s = .maskable ∧ s.ctl.im = .im0 ∧ s.cfg.intAckData &&& 0xC7 ≠ 0xC7 := by
  simp only [stopsAtIm0, Bool.and_eq_true, beq_iff_eq, bne_iff_ne, and_assoc]

/-- A maskable acceptance that is not refused is entered, whatever the mode. -/
theorem acceptMaskable_next {s : State} (h : s.ctl.im = .im0 → s.cfg.intAckData &&& 0xC7 = 0xC7) (la : Bool) :
    ∃ t, acceptMaskable la s = .next t := by
  cases him : s.ctl.im
  case im0 => exact ⟨_, acceptMaskable_of_im0_rst him (h him) la⟩
  case im1 => exact ⟨_, acceptMaskable_of_im1 him la⟩
  case im2 => exact ⟨_, acceptMaskable_of_im2 him la⟩

/-- Settles O44: of the four kinds of step only a mode 0 acceptance can be refused; an instruction always completes. -/
theorem stepStopsOnlyInMode0 : Obligations.StepStopsOnlyInMode0 := by
  intro s
  constructor
  · intro hstops
    obtain ⟨hk, him, hrst⟩ := (stopsAtIm0_iff s).1 hstops
    rw [step_of_maskable hk, acceptMaskable_of_im0_not_rst (s := beginStep s) him hrst]
    rfl
  · intro hgoes
    cases hk : stepKind s
    case nmi => exact ⟨_, step_of_nmi hk⟩
    case maskable =>
      have hrst : s.ctl.im = .im0 → s.cfg.intAckData &&& 0xC7 = 0xC7 := by
        intro him
        by_contra hne
        exact ne_true_of_eq_false hgoes ((stopsAtIm0_iff s).2 ⟨hk, him, hne⟩)
      obtain ⟨t, ht⟩ := acceptMaskable_next (s := beginStep s) hrst s.ctl.ldair
      exact ⟨finishStep t, by rw [step_of_maskable hk, ht]; rfl⟩
    case haltCycle => exact ⟨_, step_haltCycle hk⟩
    case instruction =>
      obtain ⟨t, ht⟩ := everyInstructionCompletes (decodeAt (beginStep s)).instr
        (fetchDecoded (decodeAt (beginStep s)) (beginStep s))
      exact ⟨finishStep t, by rw [step_of_instruction hk, ht]; rfl⟩

/-! ### /INT from A6 (R516) -/

theorem intLineLevel_iff (s : State) :
    intLineLevel s = true ↔
      s.cfg.intFromA6 = true ∧ s.clk.stepT = 4 * s.clk.stepM1 ∧ s.clk.stepR.getLsbD 6 = false := by
  simp only [intLineLevel, Bool.and_eq_true, beq_iff_eq, Bool.not_eq_true', and_assoc]

/-- Settles O48: the end of every step sets the level from the step's accounting, which it leaves alone. -/
theorem intLineFromA6 : Obligations.IntLineFromA6 := by
  refine ⟨fun s t h => ?_, fun k s => ⟨by rw [fetchM1_clk], rfl⟩⟩
  obtain ⟨u, v, n, hu, -, -, hv, rfl⟩ := step_cases h
  rw [finishStep_intLine, finishStep_clk, intLineLevel_iff, hv.cfg, hu.cfg]

end Sys2Proof.Machine
end

section
/-! The obligations about the ULA's line timer, as the loops of the rule, and about its two handlers on the I/O bus. -/

namespace Sys2Proof.Machine

/-! ### The line timer (R520) -/

theorem lineT_pos : 0 < Config.lineT := by decide

/-- The count of log 19 is one round of the loop and the count of the rest, while a line of `LINE_T` fits before `m`. -/
theorem boundaries_count (m : Nat) (s : State) :
    boundaries ((m - s.ula.nextLine) / Config.lineT) s =
      if s.ula.nextLine + Config.lineT ≤ m then
        boundaries ((m - (boundaryAt s.ula.nextLine s).ula.nextLine) / Config.lineT) (boundaryAt s.ula.nextLine s)
      else s := by
  split
  · next h =>
    rw [Nat.div_eq_sub_div lineT_pos (Nat.le_sub_of_add_le' h), Nat.sub_sub]
    rfl
  · next h =>
    have hlt : m - s.ula.nextLine < Config.lineT := by
      have := lineT_pos
      omega
    rw [Nat.div_eq_of_lt hlt]
    rfl

theorem advanceTo_eq_ite (n : Nat) (s : State) :
    advanceTo n s = if s.ula.nextLine ≤ n then advanceTo n (boundaryAt s.ula.nextLine s) else s :=
  (boundaries_count (n + Config.lineT) s).trans (if_congr (Nat.add_le_add_iff_right ..) rfl rfl)

theorem advanceBefore_eq_ite (n : Nat) (s : State) :
    advanceBefore n s = if s.ula.nextLine < n then advanceBefore n (boundaryAt s.ula.nextLine s) else s := by
  have hdue : s.ula.nextLine + Config.lineT ≤ n + (Config.lineT - 1) ↔ s.ula.nextLine < n := by
    have := lineT_pos
    omega
  exact (boundaries_count (n + (Config.lineT - 1)) s).trans (if_congr hdue rfl rfl)

/-- Settles O49: one round of each loop is `boundaries_count`. -/
theorem lineTimer : Obligations.LineTimer := ⟨fun _ _ => rfl, advanceTo_eq_ite, advanceBefore_eq_ite⟩

/-! ### The keyboard port (R517, R526) -/

theorem getLsbD_keyRow (keys : BitVec 40) (row col : Nat) :
    (keyRow keys row).getLsbD col = (decide (col < 5) && keys.getLsbD (5 * row + col)) :=
  BitVec.getLsbD_extractLsb' ..

/-- A column of the pressed keys of some rows, in the order of `pressedKeys`. -/
theorem getLsbD_foldl_keyRow (keys : BitVec 40) (port : Word) (col : Nat) (rows : List Nat) (v : BitVec 5) :
    (rows.foldl (fun v row => if port.getLsbD (8 + row) then v else v ||| keyRow keys row) v).getLsbD col =
      (v.getLsbD col || (decide (col < 5) &&
        rows.any fun row => !port.getLsbD (8 + row) && keys.getLsbD (5 * row + col))) := by
  induction rows generalizing v with
  | nil => simp
  | cons row rows ih =>
    rw [List.foldl_cons, ih, List.any_cons]
    cases port.getLsbD (8 + row)
    · simp [getLsbD_keyRow, Bool.and_or_distrib_left, Bool.or_assoc]
    · simp

theorem getLsbD_pressedKeys (keys : BitVec 40) (port : Word) (col : Nat) :
    (pressedKeys keys port).getLsbD col =
      (decide (col < 5) &&
        (List.range 8).any fun row => !port.getLsbD (8 + row) && keys.getLsbD (5 * row + col)) := by
  have h := getLsbD_foldl_keyRow keys port col (List.range 8) 0
  have hzero : (0 : BitVec 5).getLsbD col = false := BitVec.getLsbD_zero
  rwa [hzero, Bool.false_or] at h

theorem getLsbD_keyboardByte (s : State) (port : Word) {col : Nat} (hcol : col < 8) :
    (keyboardByte s port).getLsbD col =
      (s.cfg.floatingBus.getLsbD col && !(pressedKeys s.ula.keys port).getLsbD col) := by
  simp [keyboardByte, hcol]

theorem startVsync_of_off {s : State} (h : s.ula.nmiGenOn = false ∧ s.ula.vsync = false) :
    startVsync s = { s with ula := { s.ula with
      vsync := true, lcntr := 0, frameComplete := true, fbOut := s.ula.fb, fb := [] } } := by
  obtain ⟨hnmi, hvsync⟩ := h
  simp only [startVsync, hnmi, hvsync, Bool.not_false, Bool.and_self, if_true]

theorem startVsync_of_on {s : State} (h : ¬(s.ula.nmiGenOn = false ∧ s.ula.vsync = false)) : startVsync s = s := by
  refine if_neg fun hoff => h ?_
  rwa [Bool.and_eq_true, Bool.not_eq_true', Bool.not_eq_true'] at hoff

theorem ioRead_of_odd {port : Word} (h : port.getLsbD 0 = true) (stamp : Nat) (s : State) :
    ioRead port stamp s = (s.cfg.floatingBus, advanceTo stamp s) := by
  rw [ioRead_eq, if_pos h]

theorem ioRead_of_even {port : Word} (h : port.getLsbD 0 = false) (stamp : Nat) (s : State) :
    ioRead port stamp s = (keyboardByte (advanceTo stamp s) port, startVsync (advanceTo stamp s)) := by
  rw [ioRead_eq, if_neg (ne_true_of_eq_false h)]

/-- Settles O38: an even port is the keyboard byte, column by column, and the start of VSYNC. -/
theorem keyboardPort : Obligations.KeyboardPort := by
  intro s port stamp u r
  refine ⟨fun hodd => ioRead_of_odd hodd stamp s, fun heven => ?_⟩
  have hr : r = (keyboardByte u port, startVsync u) := ioRead_of_even heven stamp s
  rw [hr]
  refine ⟨fun col hcol => ?_, startVsync_of_off, startVsync_of_on⟩
  rw [getLsbD_keyboardByte u port hcol, getLsbD_pressedKeys, advanceTo_cfg, advanceTo_ula_keys]

/-! ### The ULA write (R518, R519) -/

theorem endVsync_eq (s : State) :
    endVsync s =
      { s with ula := { s.ula with vsync := false, lineNo := if s.ula.vsync then 0 else s.ula.lineNo } } := by
  unfold endVsync
  split
  · rfl
  · next h => simp only [← eq_false_of_ne_true h]

/-- Settles O39: VSYNC ends, then the NMI generator is switched. -/
theorem ulaWrite : Obligations.UlaWrite := by
  intro s port v stamp u
  rw [ioWrite_eq, endVsync_eq, switchNmiGen]
  cases port.getLsbD 1 <;> cases port.getLsbD 0 <;> rfl

end Sys2Proof.Machine
end

section
/-! The obligation about the video observer: which fetches draw, where a pixel of the frame buffer stands, and the eight
pixels of a character's row. -/

namespace Sys2Proof.Machine

/-! ### Which fetches draw (R522) -/

theorem isVideoFetch_iff (addr : Word) (raw : Byte) :
    isVideoFetch addr raw = true ↔ addr.getLsbD 15 = true ∧ raw.getLsbD 6 = false := by
  rw [isVideoFetch, Bool.and_eq_true, Bool.not_eq_true']

theorem videoFetch_of_not_isVideoFetch {addr : Word} {raw : Byte} (h : isVideoFetch addr raw = false) (stamp : Nat)
    (s : State) : videoFetch addr raw stamp s = advanceTo stamp s := by
  simp only [videoFetch, h, Bool.false_and, Bool.false_eq_true, if_false]

theorem videoFetch_of_vsync (addr : Word) (raw : Byte) {stamp : Nat} {s : State}
    (h : (advanceTo stamp s).ula.vsync = true) : videoFetch addr raw stamp s = advanceTo stamp s := by
  simp only [videoFetch, h, Bool.not_true, Bool.and_false, Bool.false_eq_true, if_false]

theorem videoFetch_of_isVideoFetch {addr : Word} {raw : Byte} (h : isVideoFetch addr raw = true) {stamp : Nat}
    {s : State} (hv : (advanceTo stamp s).ula.vsync = false) :
    videoFetch addr raw stamp s = drawCharacter raw stamp (advanceTo stamp s) := by
  simp only [videoFetch, h, hv, Bool.not_false, Bool.and_self, if_true]

/-! ### The pixels of a pattern row (R524, R525) -/

/-- A pixel of the frame buffer has one number: its column and its line can be told from it. -/
theorem pixel_eq_iff {x x' y y' : Nat} (hx : x < 414) (hx' : x' < 414) :
    y * 414 + x = y' * 414 + x' ↔ y = y' ∧ x = x' := by
  omega

theorem putPixel_of_inside {x0 line i : Nat} (h : x0 + i < 414 ∧ line < 312) (fb : Pixels) (p : Byte) :
    putPixel fb x0 line p i = Pixels.put fb (line * 414 + (x0 + i)) (p.getLsbD (7 - i)) :=
  if_pos h

theorem putPixel_of_outside {x0 line i : Nat} (h : ¬(x0 + i < 414 ∧ line < 312)) (fb : Pixels) (p : Byte) :
    putPixel fb x0 line p i = fb :=
  if_neg h

/-- What a pixel of the frame buffer shows after one pixel of a pattern row. -/
theorem get_putPixel {fb : Pixels} (hfb : Pixels.wf fb) (x0 line : Nat) (p : Byte) (i : Nat) {x y : Nat}
    (hx : x < 414) (hy : y < 312) :
    Pixels.get (putPixel fb x0 line p i) (y * 414 + x) =
      if y = line ∧ x = x0 + i then p.getLsbD (7 - i) else Pixels.get fb (y * 414 + x) := by
  obtain ⟨hrising, -⟩ := hfb
  by_cases hin : x0 + i < 414 ∧ line < 312
  · rw [putPixel_of_inside hin, Pixels.get_put hrising]
    simp only [pixel_eq_iff hx hin.1]
  · rw [putPixel_of_outside hin, if_neg (by omega)]

theorem wf_putPixel {fb : Pixels} (h : Pixels.wf fb) (x0 line : Nat) (p : Byte) (i : Nat) :
    Pixels.wf (putPixel fb x0 line p i) := by
  by_cases hin : x0 + i < 414 ∧ line < 312
  · rw [putPixel_of_inside hin]
    refine Pixels.wf_put h ?_ _
    show line * 414 + (x0 + i) < 414 * 312
    omega
  · rwa [putPixel_of_outside hin]

/-- The same after some of the eight pixels of a pattern row, in any order: they do not meet. -/
theorem get_foldl_putPixel {fb : Pixels} (hfb : Pixels.wf fb) (x0 line : Nat) (p : Byte) (is : List Nat) {x y : Nat}
    (hx : x < 414) (hy : y < 312) :
    Pixels.get (is.foldl (fun m i => putPixel m x0 line p i) fb) (y * 414 + x) =
      if y = line ∧ x0 ≤ x ∧ x - x0 ∈ is then p.getLsbD (7 - (x - x0)) else Pixels.get fb (y * 414 + x) := by
  induction is generalizing fb with
  | nil => simp
  | cons i is ih =>
    rw [List.foldl_cons, ih (wf_putPixel hfb ..), get_putPixel hfb _ _ _ _ hx hy]
    by_cases hi : x = x0 + i
    · have hsub : x - x0 = i := by omega
      grind
    · have hne : x0 ≤ x → x - x0 ≠ i := by omega
      grind

theorem get_putPattern {fb : Pixels} (hfb : Pixels.wf fb) (x0 line : Nat) (p : Byte) {x y : Nat} (hx : x < 414)
    (hy : y < 312) :
    Pixels.get (putPattern fb x0 line p) (y * 414 + x) =
      if y = line ∧ x0 ≤ x ∧ x < x0 + 8 then p.getLsbD (7 - (x - x0)) else Pixels.get fb (y * 414 + x) := by
  have hmem : x - x0 ∈ [0, 1, 2, 3, 4, 5, 6, 7] ↔ x - x0 < 8 := by
    rw [← List.mem_range]
    rfl
  have hcond : (y = line ∧ x0 ≤ x ∧ x - x0 ∈ [0, 1, 2, 3, 4, 5, 6, 7]) ↔ y = line ∧ x0 ≤ x ∧ x < x0 + 8 := by
    rw [hmem]
    omega
  rw [putPattern, get_foldl_putPixel hfb _ _ _ _ hx hy]
  simp only [hcond]

/-! ### The pattern byte (R523) -/

theorem getLsbD_0xFE : ∀ k < 16, (0xFE : Word).getLsbD k = decide (1 ≤ k ∧ k < 8) := by decide

theorem getLsbD_0x3F : ∀ k < 16, (0x3F : Word).getLsbD k = decide (k < 6) := by decide

/-- The pattern address in the words of the rule, bit by bit: the row, the character code, `I[7:1]` (R523). -/
theorem patternAddr_eq (i raw : Byte) (row : BitVec 3) :
    patternAddr i raw row =
      (i.setWidth 16 &&& 0xFE) <<< 8 ||| (raw.setWidth 16 &&& 0x3F) <<< 3 ||| row.setWidth 16 := by
  unfold patternAddr
  apply BitVec.eq_of_getLsbD_eq
  intro k (hk : k < 16)
  simp only [BitVec.getLsbD_append, BitVec.getLsbD_extractLsb', BitVec.getLsbD_or, BitVec.getLsbD_shiftLeft,
    BitVec.getLsbD_and, BitVec.getLsbD_setWidth]
  rw [getLsbD_0xFE _ (by omega), getLsbD_0x3F _ (by omega)]
  rcases Nat.lt_or_ge k 3 with h3 | h3
  · have h8 : k < 8 := by omega
    simp [hk, h3, h8]
  · have hrow : row.getLsbD k = false := BitVec.getLsbD_of_ge row k h3
    rcases Nat.lt_or_ge k 9 with h9 | h9
    · have hcode : ¬k < 3 ∧ k - 3 < 6 ∧ k - 3 < 16 ∧ ¬1 ≤ k - 8 := by omega
      simp [hk, hrow, hcode]
    · have hpage : ¬k < 3 ∧ ¬k < 8 ∧ ¬k - 3 < 6 ∧ k - 3 - 6 < 7 ∧ k - 8 < 16 ∧ 1 ≤ k - 8 ∧ k - 8 < 8 := by omega
      have hindex : 1 + (k - 3 - 6) = k - 8 := by omega
      simp [hk, hrow, hpage, hindex]

/-- A bit of the pattern byte, inverted for a character with bit 7 set (R523). -/
theorem getLsbD_patternByte (raw : Byte) (s : State) {k : Nat} (hk : k < 8) :
    (patternByte raw s).getLsbD k =
      ((memRead s (patternAddr s.regs.i raw s.ula.lcntr)).getLsbD k ^^ raw.getLsbD 7) := by
  unfold patternByte
  cases raw.getLsbD 7 <;> simp [hk]

/-! ### The obligation (R522 to R525) -/

/-- Settles O50: the observer draws exactly on a video fetch outside VSYNC, and then what `get_putPattern` says. -/
theorem videoFetchDraws : Obligations.VideoFetchDraws := by
  intro s addr raw stamp hfb u t
  have hiff := isVideoFetch_iff addr raw
  constructor
  · intro hnot
    have hno : isVideoFetch addr raw = false := eq_false_of_ne_true (mt hiff.1 hnot)
    exact ⟨by rw [videoByte, hno]; rfl, videoFetch_of_not_isVideoFetch hno stamp s⟩
  · intro haddr hraw
    have hyes : isVideoFetch addr raw = true := hiff.2 ⟨haddr, hraw⟩
    refine ⟨by rw [videoByte, hyes]; rfl, videoFetch_of_vsync addr raw, fun hv => ?_⟩
    have ht : t = drawCharacter raw stamp u := videoFetch_of_isVideoFetch hyes hv
    refine ⟨videoFetch_cases addr raw stamp s, fun x y hx hy => ?_⟩
    have hu : Pixels.wf u.ula.fb := by rwa [advanceTo_ula_fb]
    have hpicture : t.ula.fb = putPattern u.ula.fb (2 * (stamp - u.ula.lineStart)) u.ula.lineNo (patternByte raw u) := by
      rw [ht]
      rfl
    have hread : ∀ a, memRead u a = memRead s a :=
      memRead_congr (advanceTo_cfg ..) (advanceTo_rom ..) (advanceTo_ram ..)
    rw [hpicture, get_putPattern hu _ _ _ hx hy, getLsbD_patternByte raw u (by omega), hread, patternAddr_eq,
      advanceTo_regs, advanceTo_ula_fb]

end Sys2Proof.Machine
end

section
/-! The obligations about what the host does between steps, reset and images, and about the T-states of the opcode table. -/

namespace Sys2Proof.Machine

/-! ### Reset (R600, R602, R603) -/

/-- A memory that lists `v` at each of the indices `ks`. -/
theorem Memory.read_map_const (dflt v : Byte) (ks : List Nat) (k : Nat) :
    Memory.read dflt (ks.map fun j => (j, v)) k = if k ∈ ks then v else dflt := by
  induction ks with
  | nil => rfl
  | cons j ks ih =>
    rw [List.map_cons, Memory.read, ih]
    by_cases hj : k = j
    · rw [if_pos hj, if_pos (hj ▸ List.mem_cons_self ..)]
    · simp only [hj, if_false, List.mem_cons, false_or]

theorem Memory.read_fill (dflt v : Byte) {n k : Nat} (hk : k < n) : Memory.read dflt (Memory.fill dflt n v) k = v := by
  unfold Memory.fill
  split
  · next hv => exact hv.symm
  · rw [Memory.read_map_const, if_pos (List.mem_range.2 hk)]

theorem RamSize.bytes_pos (size : RamSize) : 0 < size.bytes := by
  obtain ⟨k, hk⟩ := RamSize.exists_bytes_eq_two_pow size
  rw [hk]
  exact Nat.two_pow_pos k

/-- A reset that clears RAM leaves the clear value at every RAM address (R603). -/
theorem memRead_hostReset_of_clears {s : State} (hclears : s.cfg.resetClearsRam = true) {a : Word}
    (ha : a.getLsbD 14 = true) : memRead (hostReset s) a = Config.ramClearValue := by
  have hram : (hostReset s).ram = Memory.fill s.cfg.ramPowerOnFill s.cfg.ramSize.bytes Config.ramClearValue :=
    if_pos hclears
  rw [memRead_of_ram ha, hram]
  exact Memory.read_fill _ _ (Nat.mod_lt _ (RamSize.bytes_pos _))

theorem hostReset_ram_of_keeps {s : State} (hkeeps : s.cfg.resetClearsRam = false) : (hostReset s).ram = s.ram :=
  if_neg (ne_true_of_eq_false hkeeps)

/-- Settles O51: a pair after reset is its parameter put together again from its two bytes. -/
theorem resetState : Obligations.ResetState := by
  intro s t v
  have hpair : ∀ w : Word, joinBytes (w.extractLsb' 8 8) (w.extractLsb' 0 8) = w := joinBytes_hi_lo
  exact ⟨rfl, rfl, rfl, hpair v.af, hpair v.bc, hpair v.de, hpair v.hl, rfl, rfl, rfl, rfl, rfl, rfl, rfl, rfl, rfl, rfl,
    rfl, rfl, rfl, rfl, fun hclears _ => memRead_hostReset_of_clears hclears, hostReset_ram_of_keeps⟩

/-- Settles O60: at reset nothing is requested, VSYNC is off and the line timer stands at cycle 0. -/
theorem invariantAtReset : Obligations.InvariantAtReset where
  mem := memWf_reset
  cfg := by decide
  line := rfl
  started := Nat.le_refl 0
  current := Nat.zero_le _
  held := fun _ => rfl
  iff := id
  flags := .inl rfl
  blocked := id
  wired := fun _ => rfl

/-! ### Images (R531) -/

/-- What any address reads after a raw write: the new byte where it has the same place, ROM or RAM, the old byte
elsewhere (R106). -/
theorem memRead_rawWrite {s : State} (hs : s.memWf) (addr a : Word) (v : Byte) :
    memRead (rawWrite s addr v) a = if place s.cfg addr = place s.cfg a then v else memRead s a := by
  obtain ⟨⟨hrom, -⟩, ⟨hram, -⟩, -⟩ := hs
  cases haddr : place s.cfg addr <;> cases ha : place s.cfg a <;>
    simp [memRead, rawWrite, haddr, ha, Memory.read_write hrom, Memory.read_write hram, eq_comm]

theorem rawWrite_frame (s : State) (addr : Word) (v : Byte) :
    rawWrite s addr v = { s with rom := (rawWrite s addr v).rom, ram := (rawWrite s addr v).ram } := by
  unfold rawWrite
  split <;> rfl

/-- An image changes memory only. -/
theorem rawWriteBytes_frame (bytes : List Byte) (addr : Word) (s : State) :
    rawWriteBytes bytes addr s =
      { s with rom := (rawWriteBytes bytes addr s).rom, ram := (rawWriteBytes bytes addr s).ram } := by
  induction bytes generalizing addr s with
  | nil => rfl
  | cons v vs ih =>
    rw [rawWriteBytes, ih, rawWrite_frame]

/-- The byte of an image at `base` that `a` reads: the last one with the place of `a`. -/
def imageIndex (cfg : Config) (base n : Nat) (a : Word) : Option Nat :=
  (List.range n).reverse.find? fun k => place cfg (BitVec.ofNat 16 (base + k)) == place cfg a

/-- The first byte of an image counts only where no later one has the same place. -/
theorem imageIndex_succ (cfg : Config) (base n : Nat) (a : Word) :
    imageIndex cfg base (n + 1) a =
      ((imageIndex cfg (base + 1) n a).map (· + 1)).or
        (if place cfg (BitVec.ofNat 16 base) = place cfg a then some 0 else none) := by
  have hshift : (fun k => place cfg (BitVec.ofNat 16 (base + (k + 1))) == place cfg a) =
      fun k => place cfg (BitVec.ofNat 16 (base + 1 + k)) == place cfg a := by
    funext k
    rw [Nat.add_assoc base, Nat.add_comm 1]
  simp only [imageIndex, List.range_succ_eq_map, List.reverse_cons, ← List.map_reverse, List.find?_append,
    List.find?_map, Function.comp_def, hshift, List.find?_singleton, beq_iff_eq, Nat.add_zero]

theorem memRead_rawWriteBytes (bytes : List Byte) (base : Nat) {s : State} (hs : s.memWf) (a : Word) :
    memRead (rawWriteBytes bytes (BitVec.ofNat 16 base) s) a =
      (imageIndex s.cfg base bytes.length a).elim (memRead s a) fun k => bytes.getD k 0 := by
  induction bytes generalizing base s with
  | nil => rfl
  | cons v vs ih =>
    have hnext : BitVec.ofNat 16 base + 1 = BitVec.ofNat 16 (base + 1) := (BitVec.ofNat_add base 1).symm
    rw [rawWriteBytes, hnext, ih (base + 1) (memWf_rawWrite hs ..), rawWrite_cfg, memRead_rawWrite hs, List.length_cons,
      imageIndex_succ]
    cases imageIndex s.cfg (base + 1) vs.length a
    case some k => rfl
    case none => split <;> rfl

/-- Settles O53: by induction on the bytes, the first of which is the one that any later one overwrites. -/
theorem loadImage_spec : Obligations.LoadImage := by
  intro s bytes base
  refine ⟨fun hbig => if_pos hbig, fun hbase hend hs => ⟨rawWriteBytes bytes (BitVec.ofNat 16 base) s, ?_, ?_, ?_⟩⟩
  · exact if_neg (by omega)
  · exact rawWriteBytes_frame ..
  · exact memRead_rawWriteBytes bytes base hs

/-! ### Times (R617, R618) -/

/-- Settles O57: a body takes no T-states of its own, and its end takes those of the table. -/
theorem tStatesTable : Obligations.TStatesTable := by
  intro i s t hi h
  have hruns := exec_runs hi h
  exact ⟨hruns.cycles, hruns.stepT⟩

end Sys2Proof.Machine
end
